-- ==== Sys2Proof/Word.lean ====
section
/-! DEFINITION. The word types of the block: bytes on the line, the 16-bit CRC word, nibbles of BCD fields (R10, 00_scope.md). -/

namespace Sys2Proof

/-- A byte: 8 bits, read as an unsigned value 0 to 255 where a rule needs a number (R10). -/
abbrev Byte := BitVec 8

/-- The CRC accumulator's word (R21). -/
abbrev Word16 := BitVec 16

/-- One nibble of a byte (R10: the high nibble is `b[7:4]`, the low nibble `b[3:0]`). -/
abbrev Nibble := BitVec 4

end Sys2Proof
end

