-- ==== Sys2Proof/Syntax.lean ====
section
/-! DEFINITION. The syntax: the enumerations of the spec, the operand shapes, and `Instr`, one constructor per row of spec/opcode_table.json
(R9 says what plays the part of an instruction: inbound frames, sub-records, status codes, outbound frames, host operations, steps). -/

namespace Sys2Proof

/-- The eight pump states, in the order of R23 (10_state.md). -/
inductive PumpState where
  | notProgrammed
  | reset
  | authorized
  | filling
  | suspended
  | fillingCompleted
  | maxAmountVolume
  | switchedOff
  deriving DecidableEq, Repr

/-- The order of the two CRC bytes on the wire (R23, R65). -/
inductive CrcOrder where
  | loHi
  | hiLo
  deriving DecidableEq, Repr

/-- The two status code tables of R91 (30_encoding.md). -/
inductive StatusTable where
  | base
  | extended
  deriving DecidableEq, Repr

/-- The two frame shapes (R80). -/
inductive Shape where
  | short
  | long
  deriving DecidableEq, Repr

/-- The persistent counters (R48): a count of sales and a total in centilitres, both unbounded. -/
structure Counters where
  vehicleCount : Nat
  totalCl : Nat
  deriving DecidableEq, Repr

/-- A Long frame less its command byte and its two fixed last bytes (R81): the address byte, the payload, the two CRC bytes as they stand on
the wire. The command byte is the instruction's own opcode; `03 FA` are fixed. -/
structure LongFrame where
  addr : Byte
  payload : List Byte
  crc1 : Byte
  crc2 : Byte
  deriving DecidableEq, Repr

/-- A sub-record of a composite payload (R23, R89). Its `length` byte is the number of data bytes: "Invariant: `length == len(data)`". -/
structure SubRecord where
  trans : Byte
  data : List Byte
  deriving DecidableEq, Repr

/-- What one decoded unit of payload yields (R23). -/
inductive Item where
  | status (code : Byte) (table : StatusTable)
  | volume (volumeCl amountC : Nat)
  | nozzlePrice (priceRaw : Nat) (nozzle : Nibble) (out : Bool)
  | totals (nozzle : Byte) (t0 t1 t2 : Nat)
  deriving DecidableEq, Repr

/-- The host operations (R350), with the argument types of that rule. -/
inductive HostOp where
  | sendGeneric (code : Byte)
  | sendPresetVolume (volumeCl : Int)
  | sendTotalsRequest
  | sendMinPoll
  | sendMinAck
  | setCrcOrder (order : CrcOrder)
  | setAutoAck (b : Bool)
  | setAutoPoll (b : Bool) (intervalMs : Nat)
  | transportOpen (addr : Byte)
  | transportClose
  | intentHint (state : PumpState)
  deriving DecidableEq, Repr

/-- The instructions: one constructor per row of spec/opcode_table.json. `now` is the timestamp of the `Dispatch` step that decodes the frame (R51),
an unbounded natural (DESIGN CHOICE, log entry 25). -/
inductive Instr where
  -- RX_LONG (R88): inbound Long frames
  /-- `0x01` DirectStatus (R217). -/
  | rxDirectStatus (now : Nat) (f : LongFrame)
  /-- `0x30` StatusReply (R215). -/
  | rxStatusReply (now : Nat) (f : LongFrame)
  /-- `0x31` Composite (R223). -/
  | rxComposite31 (now : Nat) (f : LongFrame)
  /-- `0x32` Composite (R223). -/
  | rxComposite32 (now : Nat) (f : LongFrame)
  /-- `0x33` Composite (R223). -/
  | rxComposite33 (now : Nat) (f : LongFrame)
  /-- `0x34` Composite (R223). -/
  | rxComposite34 (now : Nat) (f : LongFrame)
  /-- `0x35` Composite (R223). -/
  | rxComposite35 (now : Nat) (f : LongFrame)
  /-- `0x36` Composite (R223). -/
  | rxComposite36 (now : Nat) (f : LongFrame)
  /-- `0x37` Composite (R223). -/
  | rxComposite37 (now : Nat) (f : LongFrame)
  /-- `0x38` Composite (R223). -/
  | rxComposite38 (now : Nat) (f : LongFrame)
  /-- `0x39` Composite (R223). -/
  | rxComposite39 (now : Nat) (f : LongFrame)
  /-- `0x3A` Composite (R223). -/
  | rxComposite3a (now : Nat) (f : LongFrame)
  /-- `0x3B` Composite (R223). -/
  | rxComposite3b (now : Nat) (f : LongFrame)
  /-- `0x3C` Composite (R223). -/
  | rxComposite3c (now : Nat) (f : LongFrame)
  /-- `0x3D` Composite (R223). -/
  | rxComposite3d (now : Nat) (f : LongFrame)
  /-- `0x3E` Composite (R223). -/
  | rxComposite3e (now : Nat) (f : LongFrame)
  /-- `0x3F` Composite (R223). -/
  | rxComposite3f (now : Nat) (f : LongFrame)
  /-- `0x65` CompositeTotals (R224). -/
  | rxCompositeTotals (now : Nat) (f : LongFrame)
  /-- `0xCD` StatusReply (R216). -/
  | rxStatusReplyCd (now : Nat) (f : LongFrame)
  /-- `0xD1` AltStatus (R219). -/
  | rxAltStatus (now : Nat) (f : LongFrame)
  /-- `0xD2` AltVolume (R219). -/
  | rxAltVolume (now : Nat) (f : LongFrame)
  /-- `0xD3` AltTotals (R219). -/
  | rxAltTotals (now : Nat) (f : LongFrame)
  /-- `0xD4` AltNozzle (R219). -/
  | rxAltNozzle (now : Nat) (f : LongFrame)
  /-- any other command byte (R221). -/
  | rxUnknownCommand (command : Byte) (f : LongFrame)
  -- RX_SHORT (R93): inbound Short frames
  /-- `50 20 FA` (R212). -/
  | rxPollEcho
  /-- `50 C0 FA` (R212). -/
  | rxAckEcho
  /-- `50 70 FA` (R213). -/
  | rxBusy
  /-- `50 xx FA`, any other code (R214). -/
  | rxUnknownShort (code : Byte)
  -- SUBREC (R90): sub-records; `totals` says that the outer command byte is `0x65`
  /-- `trans = 0x01` Status (R231). -/
  | subStatus (now : Nat) (totals : Bool) (data : List Byte)
  /-- `trans = 0x02` FilledVolumeAmount (R232). -/
  | subFilledVolumeAmount (totals : Bool) (data : List Byte)
  /-- `trans = 0x03`, outer command not `0x65`: NozzlePrice (R233). -/
  | subNozzlePrice (data : List Byte)
  /-- `trans = 0x03`, outer command `0x65`: Totals (R234). -/
  | subTotals (data : List Byte)
  /-- any other `trans` (R235). -/
  | subUnknownTrans (totals : Bool) (trans : Byte) (data : List Byte)
  -- STATUS_BASE (R91): status codes under the base table
  /-- code `0x00` (R262). -/
  | stNotProgrammed (now : Nat)
  /-- code `0x01` (R262). -/
  | stReset (now : Nat)
  /-- code `0x02` (R262). -/
  | stAuthorized (now : Nat)
  /-- code `0x04` (R262). -/
  | stFilling (now : Nat)
  /-- code `0x05` (R262). -/
  | stFillingCompleted (now : Nat)
  /-- code `0x06` (R262). -/
  | stMaxAmountVolume (now : Nat)
  /-- code `0x03` (R263). -/
  | stCode03 (now : Nat)
  /-- a code the base table does not map (R266). -/
  | stUnmapped (now : Nat) (code : Byte)
  -- STATUS_EXT (R91): status codes under the extended table
  /-- code `0x00` (R262). -/
  | stxNotProgrammed (now : Nat)
  /-- code `0x01` (R262). -/
  | stxReset (now : Nat)
  /-- code `0x02` (R262). -/
  | stxAuthorized (now : Nat)
  /-- code `0x04` (R262). -/
  | stxFilling (now : Nat)
  /-- code `0x05` (R262). -/
  | stxFillingCompleted (now : Nat)
  /-- code `0x06` (R262). -/
  | stxMaxAmountVolume (now : Nat)
  /-- code `0x07` (R262). -/
  | stxSwitchedOff (now : Nat)
  /-- code `0x0B` (R262). -/
  | stxSuspended (now : Nat)
  /-- code `0x03` (R263). -/
  | stxCode03 (now : Nat)
  /-- a code the extended table does not map (R266). -/
  | stxUnmapped (now : Nat) (code : Byte)
  -- TX_LONG, TX_SHORT (R84 to R87): outbound frames
  /-- the preset-volume frame (R194). -/
  | txPresetVolume (addr : Byte) (volumeCl : Int)
  /-- the generic command frame (R193). -/
  | txGeneric (addr nozzle code : Byte)
  /-- the totals-request frame (R195). -/
  | txTotalsRequest (addr nozzle : Byte)
  /-- the minimal poll `50 20 FA` (R196). -/
  | txMinPoll
  /-- the minimal ack `50 C0 FA` (R196). -/
  | txMinAck
  -- HOST (R350): host operations
  /-- operation 0 (R351). -/
  | hostSendGeneric (code : Byte)
  /-- operation 1 (R353; `volumeCl` in centilitres). -/
  | hostSendPresetVolume (volumeCl : Int)
  /-- operation 2 (R354). -/
  | hostSendTotalsRequest
  /-- operation 3 (R355). -/
  | hostSendMinPoll
  /-- operation 4 (R356). -/
  | hostSendMinAck
  /-- operation 5 (R357). -/
  | hostSetCrcOrder (order : CrcOrder)
  /-- operation 6 (R358). -/
  | hostSetAutoAck (b : Bool)
  /-- operation 7 (R359). -/
  | hostSetAutoPoll (b : Bool) (intervalMs : Nat)
  /-- operation 8 (R360). -/
  | hostTransportOpen (addr : Byte)
  /-- operation 9 (R361). -/
  | hostTransportClose
  /-- operation 10 (R268). -/
  | hostIntentHint (state : PumpState)
  -- STEP (R7, R97): the steps of the transition system
  /-- a byte from the line (R164). -/
  | stepRxByte (b : Byte)
  /-- decode the oldest queued frame (R210). -/
  | stepDispatch (now : Nat)
  /-- the liveness timer expires (R293). -/
  | stepTimerFire
  /-- a host operation (R350). -/
  | stepHost (op : HostOp)
  /-- a port access or I/O error (R386). -/
  | stepTransportFault
  /-- a new session (R420); `some c`: the storage collaborator's `load()` now answers `c`; `none`: it answers the `LOAD_*` in force (log entry 11, DEDUCED). -/
  | stepSessionReset (load : Option Counters)
  deriving DecidableEq, Repr

end Sys2Proof
end

