-- ==== Sys2Proof/Config.lean ====
section
/-! DEFINITION. The parameters of R5 (00_scope.md): the fixed ones as constants, the others as the record `Params` that a state carries (log entry 3),
and `ALT_DECODE`, four free functions. -/

namespace Sys2Proof.Config

/-- `POLY` (R5, fixed). -/
def poly : Word16 := 0xA001#16

/-- `CRC_INIT` (R5, fixed): the default of `compute`'s `init`. -/
def crcInit : Word16 := 0x0000#16

/-- `TRAILER` (R5, fixed): the byte that ends every frame. -/
def trailer : Byte := 0xFA#8

/-- `ETX` (R5, fixed): the byte before a Long frame's trailer. -/
def etx : Byte := 0x03#8

/-- `SHORT_LEAD` (R5, fixed): the first byte of a Short frame. -/
def shortLead : Byte := 0x50#8

/-- `MIN_LONG_LEN` (R5, fixed; conflict C1). -/
def minLongLen : Nat := 7

/-- `RESET_CRC_ORDER` (R5, fixed). -/
def resetCrcOrder : CrcOrder := .loHi

/-- `RESET_POLL_MS` (R5, fixed). -/
def resetPollMs : Nat := 500

/-- `ENC4_MAX` (R5, fixed). -/
def enc4Max : Nat := 99999999

/-- `PRESET_MIN_CL` (R5, fixed), in centilitres. -/
def presetMinCl : Nat := 10

/-- `PRESET_MAX_CL` (R5, fixed), in centilitres. -/
def presetMaxCl : Nat := 25000

/-! `ALT_DECODE` (R220), a total function of the command byte and the payload that this spec does not give, as one free value per command byte: none has a
body, so every statement holds whatever they are. Their types settle what R219 (b) and D13 settle, the kind of item each command yields (log entry 21); the payload's layout, the
status table and the scale stay free. They act only in states whose `cfg.altDecodeSupplied` is true (log entry 5). -/

/-- `ALT_DECODE` on AltStatus `0xD1` (R219): the code and the status table of each `Status` item, or none. -/
opaque altStatus : List Byte → Option (List (Byte × StatusTable))

/-- `ALT_DECODE` on AltVolume `0xD2` (R219): the volume in centilitres and the amount in centi-units of each `Volume` item, or none. -/
opaque altVolume : List Byte → Option (List (Nat × Nat))

/-- `ALT_DECODE` on AltTotals `0xD3` (R219): the nozzle and the three totals of each `Totals` item, or none. -/
opaque altTotals : List Byte → Option (List (Byte × Nat × Nat × Nat))

/-- `ALT_DECODE` on AltNozzle `0xD4` (R219): the price, the nozzle and the out flag of each `NozzlePrice` item, the one item of R23 that carries a nozzle
flag, or none. -/
opaque altNozzle : List Byte → Option (List (Nat × Nibble × Bool))

/-- The parameters of R5 that are not fixed, and the general-knowledge values that 93_implementation_defined.md part 2 asks a model to treat as
defaults of parameters (log entry 4). -/
structure Params where
  /-- `ETX_ADJACENT`; only true is specified (R162, U19). -/
  etxAdjacent : Bool
  /-- `RX_CAP` (R61). -/
  rxCap : Option Nat
  /-- `QUEUE_CAP` (R62). -/
  queueCap : Option Nat
  /-- `DEVICE_ADDR` (R33). -/
  deviceAddr : Byte
  /-- `NOZZLE` (R34). -/
  nozzle : Byte
  /-- `RESET_AUTO_ACK` (R31). -/
  resetAutoAck : Bool
  /-- `RESET_AUTO_POLL` (R32). -/
  resetAutoPoll : Bool
  /-- `CODE_AUTHORIZE` (R213). -/
  codeAuthorize : Byte
  /-- `CODE_STOP` (R318). -/
  codeStop : Byte
  /-- `CODE_RESUME` (R352). -/
  codeResume : Option Byte
  /-- `READ_QUERY_CODES` (R284). -/
  readQueryCodes : List Byte
  /-- `TOTALS_IS_READ_QUERY` (R285). -/
  totalsIsReadQuery : Bool
  /-- `SUBREC_STATUS_TABLE` (R231). -/
  subrecStatusTable : StatusTable
  /-- The state of status code `0x01` (general knowledge G1; R262 gives `Reset`). -/
  statusCode01 : Option PumpState
  /-- The state of status code `0x02` (general knowledge G1; R262 gives `Authorized`). -/
  statusCode02 : Option PumpState
  /-- `STATUS_CODE_03` (R263); `none` is "unmapped". -/
  statusCode03 : Option PumpState
  /-- The state of status code `0x05` (general knowledge G1; R262 gives `FillingCompleted`). -/
  statusCode05 : Option PumpState
  /-- The value of bit 4 of the nozzle status byte that means "out" (general knowledge G3, D31; R95 gives 1). -/
  nozzleOutBit : Bool
  /-- Whether `ALT_DECODE` is supplied (R220). -/
  altDecodeSupplied : Bool
  /-- `LOAD_VEHICLE_COUNT`, `LOAD_TOTAL_CL` (R48). -/
  load : Counters
  /-- `TRACKER_PRESENT` (R3). -/
  trackerPresent : Bool
  deriving DecidableEq, Repr

/-- The values R5 gives. `DEVICE_ADDR` and `LOAD_*` are arguments to which R5 gives no value: DESIGN CHOICE, log entry 13 (the start state of
95_test_vectors.md), unsafe. -/
def Params.default : Params where
  etxAdjacent := true
  rxCap := none
  queueCap := none
  deviceAddr := 0x50#8
  nozzle := 0x01#8
  resetAutoAck := true
  resetAutoPoll := true
  codeAuthorize := 0x06#8
  codeStop := 0x08#8
  codeResume := none
  readQueryCodes := [0x00#8, 0x04#8]
  totalsIsReadQuery := true
  subrecStatusTable := .extended
  statusCode01 := some .reset
  statusCode02 := some .authorized
  statusCode03 := none
  statusCode05 := some .fillingCompleted
  nozzleOutBit := true
  altDecodeSupplied := false
  load := ⟨0, 0⟩
  trackerPresent := true

end Sys2Proof.Config
end

