-- ==== Sys2Proof/Machine/Bcd.lean ====
section
/-! DEFINITION. The BCD codec (41_bcd.md): pure functions without state. -/

namespace Sys2Proof.Machine

/-- The high nibble `b[7:4]` (R10). -/
def highNibble (b : Byte) : Nibble := b.extractLsb' 4 4

/-- The low nibble `b[3:0]` (R10). -/
def lowNibble (b : Byte) : Nibble := b.extractLsb' 0 4

/-- The value of one nibble (R141): 10 to 15 read as digit 0. -/
def bcdDigit (x : Nibble) : Nat := if 10 ≤ x.toNat then 0 else x.toNat

/-- The two digits of a byte as a number 0 to 99 (R142, the loop's body). -/
def bcdPair (b : Byte) : Nat := bcdDigit (highNibble b) * 10 + bcdDigit (lowNibble b)

/-- A BCD field, most significant pair first (R142, R66), of any width. -/
def decodeBcd (d : List Byte) : Nat := d.foldl (fun v b => v * 100 + bcdPair b) 0

/-- `decode3` (R144), of the first three bytes of `d`. -/
def decode3 (d : List Byte) : Nat := decodeBcd (d.take 3)

/-- `decode4` (R142), of the first four bytes of `d`. -/
def decode4 (d : List Byte) : Nat := decodeBcd (d.take 4)

/-- `decode5` (R143), of the first five bytes of `d`. -/
def decode5 (d : List Byte) : Nat := decodeBcd (d.take 5)

/-- Two digits packed into a byte, `hi << 4 | lo` (R146). -/
def packDigits (hi lo : Nat) : Byte := (BitVec.ofNat 8 hi <<< 4) ||| BitVec.ofNat 8 lo

/-- `clamp(n, lo, hi)` of R12 on a mathematical integer, as a natural. -/
def clampInt (n : Int) (lo hi : Nat) : Nat := max lo (min hi n.toNat)

/-- The decimal digit of `m` at place `10^k`. -/
def decimalDigit (m k : Nat) : Nat := m / 10 ^ k % 10

/-- `encode4` (R146): clamp to 0 .. 99_999_999, eight digits, two a byte, first two digits in the first byte. -/
def encode4 (n : Int) : List Byte :=
  let m := clampInt n 0 Config.enc4Max
  [ packDigits (decimalDigit m 7) (decimalDigit m 6),
    packDigits (decimalDigit m 5) (decimalDigit m 4),
    packDigits (decimalDigit m 3) (decimalDigit m 2),
    packDigits (decimalDigit m 1) (decimalDigit m 0) ]

end Sys2Proof.Machine
end

