-- ==== Sys2Proof/Machine/Crc.lean ====
section
/-! DEFINITION. The CRC16 engine (40_crc16.md): one bit-shift, one byte, a byte sequence, and the bit-serial form of R124. -/

namespace Sys2Proof.Machine

/-- One bit-shift (R121): the low bit is examined before the logical right shift (R126, reading A). -/
def crcBit (acc : Word16) : Word16 :=
  if acc.getLsbD 0 then (acc >>> 1) ^^^ Config.poly else acc >>> 1

/-- `n` bit-shifts in a row. -/
def crcBits : Nat → Word16 → Word16
  | 0, acc => acc
  | n + 1, acc => crcBits n (crcBit acc)

/-- Absorb one byte (R122): XOR into the low 8 bits, then eight bit-shifts. -/
def crcByte (acc : Word16) (b : Byte) : Word16 :=
  crcBits 8 (acc ^^^ b.setWidth 16)

/-- The CRC of a byte sequence from a given accumulator (R123). -/
def crcCompute (bytes : List Byte) (init : Word16 := Config.crcInit) : Word16 :=
  bytes.foldl crcByte init

/-- One data bit of the bit-serial form (R124). -/
def crcSerialBit (acc : Word16) (d : Bool) : Word16 :=
  if acc.getLsbD 0 ^^ d then (acc >>> 1) ^^^ Config.poly else acc >>> 1

/-- The bits `b[0]` to `b[7]` of a byte, in that order (R124). -/
def bitsLsbFirst (b : Byte) : List Bool :=
  (List.range 8).map b.getLsbD

/-- The bit-serial generator over a byte sequence (R124). -/
def crcSerial (bytes : List Byte) (init : Word16 := Config.crcInit) : Word16 :=
  (bytes.flatMap bitsLsbFirst).foldl crcSerialBit init

end Sys2Proof.Machine
end

