-- ==== Sys2Proof/Machine/FrameBuild.lean ====
section
/-! DEFINITION. The pure frame builders of the command encoder (43_command_encoder.md). -/

namespace Sys2Proof.Machine

/-- `crcPair` (R191, R65): the two CRC bytes in wire order. -/
def crcPair (c : Word16) : CrcOrder → List Byte
  | .loHi => [c.extractLsb' 0 8, c.extractLsb' 8 8]
  | .hiLo => [c.extractLsb' 8 8, c.extractLsb' 0 8]

/-- `LONG` (R192): close a Long frame. Nothing is escaped (R202). -/
def longClose (body : List Byte) (order : CrcOrder) : List Byte :=
  body ++ crcPair (crcCompute body) order ++ [Config.etx, Config.trailer]

/-- `encodeGeneric` (R193, R84). -/
def encodeGeneric (addr nozzle code : Byte) (order : CrcOrder) : List Byte :=
  longClose [addr, 0x30#8, nozzle, 0x01#8, code] order

/-- The preset after clamping, in centilitres (R194). -/
def presetClamp (volumeCl : Int) : Nat := clampInt volumeCl Config.presetMinCl Config.presetMaxCl

/-- `encodePreset` (R194, R85). -/
def encodePreset (addr : Byte) (volumeCl : Int) (order : CrcOrder) : List Byte :=
  longClose ([addr, 0x30#8, 0x03#8, 0x04#8] ++ encode4 (presetClamp volumeCl)) order

/-- `encodeTotalsRequest` (R195, R86). -/
def encodeTotalsRequest (addr nozzle : Byte) (order : CrcOrder) : List Byte :=
  longClose [addr, 0x3C#8, 0x65#8, 0x01#8, nozzle] order

/-- `MIN_POLL` (R196, R87). -/
def minPoll : List Byte := [0x50#8, 0x20#8, 0xFA#8]

/-- `MIN_ACK` (R196, R87). -/
def minAck : List Byte := [0x50#8, 0xC0#8, 0xFA#8]

/-- The bytes of an inbound Long frame with command byte `command` (R81). -/
def longFrameBytes (command : Byte) (f : LongFrame) : List Byte :=
  [f.addr, command] ++ f.payload ++ [f.crc1, f.crc2, Config.etx, Config.trailer]

/-- The bytes of a Short frame (R82). -/
def shortFrameBytes (code : Byte) : List Byte := [Config.shortLead, code, Config.trailer]

/-- The bytes of a sub-record (R89). -/
def subRecordBytes (trans : Byte) (data : List Byte) : List Byte :=
  [trans, BitVec.ofNat 8 data.length] ++ data

end Sys2Proof.Machine
end

