-- ==== Sys2Proof/WellFormed.lean ====
section
/-! DEFINITION. Which instructions are well formed: each says of its operands only what the row of its table says (R81, R88 to R93, R194). -/

namespace Sys2Proof

/-- The command bytes that R88 names; every other value is the row `rx.unknown_command`. -/
def knownCommand (c : Byte) : Bool :=
  c == 0x01#8 || (decide (0x30 ≤ c.toNat) && decide (c.toNat ≤ 0x3F)) || c == 0x65#8 || c == 0xCD#8
    || (decide (0xD1 ≤ c.toNat) && decide (c.toNat ≤ 0xD4))

/-- The Short codes that R93 names; every other value is the row `rx.unknown_short`. -/
def knownShortCode (c : Byte) : Bool := c == 0x20#8 || c == 0xC0#8 || c == 0x70#8

/-- The `trans` values that R90 names; every other value is the row `sub.unknown_trans`. -/
def knownTrans (t : Byte) : Bool := t == 0x01#8 || t == 0x02#8 || t == 0x03#8

/-- The codes to which the base table of R91 gives a row (`0x03` among them, R263). -/
def baseTableCode (c : Byte) : Bool := decide (c.toNat ≤ 6)

/-- The codes to which the extended table of R91 gives a row. -/
def extendedTableCode (c : Byte) : Bool := decide (c.toNat ≤ 7) || c == 0x0B#8

/-- A Long frame the codec can cut has at least one payload byte (R170: `n >= 7`). -/
def LongFrame.wf (f : LongFrame) : Bool := !f.payload.isEmpty

/-- A sub-record's length byte counts its data (R89): at most 255 bytes. -/
def recordDataWf (data : List Byte) : Bool := decide (data.length ≤ 255)

/-- Well-formed instructions. -/
def Instr.wf : Instr → Bool
  | .rxDirectStatus _ f => f.wf
  | .rxStatusReply _ f => f.wf
  | .rxComposite31 _ f => f.wf
  | .rxComposite32 _ f => f.wf
  | .rxComposite33 _ f => f.wf
  | .rxComposite34 _ f => f.wf
  | .rxComposite35 _ f => f.wf
  | .rxComposite36 _ f => f.wf
  | .rxComposite37 _ f => f.wf
  | .rxComposite38 _ f => f.wf
  | .rxComposite39 _ f => f.wf
  | .rxComposite3a _ f => f.wf
  | .rxComposite3b _ f => f.wf
  | .rxComposite3c _ f => f.wf
  | .rxComposite3d _ f => f.wf
  | .rxComposite3e _ f => f.wf
  | .rxComposite3f _ f => f.wf
  | .rxCompositeTotals _ f => f.wf
  | .rxStatusReplyCd _ f => f.wf
  | .rxAltStatus _ f => f.wf
  | .rxAltVolume _ f => f.wf
  | .rxAltTotals _ f => f.wf
  | .rxAltNozzle _ f => f.wf
  | .rxUnknownCommand c f => !knownCommand c && f.wf
  | .rxPollEcho => true
  | .rxAckEcho => true
  | .rxBusy => true
  | .rxUnknownShort c => !knownShortCode c
  | .subStatus _ _ d => recordDataWf d
  | .subFilledVolumeAmount _ d => recordDataWf d
  | .subNozzlePrice d => recordDataWf d
  | .subTotals d => recordDataWf d
  | .subUnknownTrans _ t d => !knownTrans t && recordDataWf d
  | .stNotProgrammed _ => true
  | .stReset _ => true
  | .stAuthorized _ => true
  | .stCode03 _ => true
  | .stFilling _ => true
  | .stFillingCompleted _ => true
  | .stMaxAmountVolume _ => true
  | .stUnmapped _ c => !baseTableCode c
  | .stxNotProgrammed _ => true
  | .stxReset _ => true
  | .stxAuthorized _ => true
  | .stxCode03 _ => true
  | .stxFilling _ => true
  | .stxFillingCompleted _ => true
  | .stxMaxAmountVolume _ => true
  | .stxSwitchedOff _ => true
  | .stxSuspended _ => true
  | .stxUnmapped _ c => !extendedTableCode c
  | .txPresetVolume _ v => decide (10 ≤ v) && decide (v ≤ 25000)
  | .txGeneric _ _ _ => true
  | .txTotalsRequest _ _ => true
  | .txMinPoll => true
  | .txMinAck => true
  | .hostSendGeneric _ => true
  | .hostSendPresetVolume _ => true
  | .hostSendTotalsRequest => true
  | .hostSendMinPoll => true
  | .hostSendMinAck => true
  | .hostSetCrcOrder _ => true
  | .hostSetAutoAck _ => true
  | .hostSetAutoPoll _ _ => true
  | .hostTransportOpen _ => true
  | .hostTransportClose => true
  | .hostIntentHint _ => true
  | .stepRxByte _ => true
  | .stepDispatch _ => true
  | .stepTimerFire => true
  | .stepHost _ => true
  | .stepTransportFault => true
  | .stepSessionReset _ => true

end Sys2Proof
end

