-- ==== Sys2Proof/Decode.lean ====
section
/-! DEFINITION. The decoder and, after it, the encoder. The table's nine formats (R96) have nine decoders, because a row's selector means something only within
its format: a frame's command byte, a sub-record's `trans`, a status code, an outbound frame's head, an operation number, a step number. Every decoder is total and
rejects by name. -/

namespace Sys2Proof

open Sys2Proof.Machine

/-- Why a decoder rejects what it is given. -/
inductive Reject where
  /-- A Long frame of fewer than 7 bytes (R162). -/
  | frameTooShort (length : Nat)
  /-- A Long frame whose last but one byte is not `0x03` (R162). -/
  | badEtx (b : Byte)
  /-- A frame whose last byte is not `0xFA` (R161). -/
  | badTrailer (b : Byte)
  /-- A Short frame that is not 3 bytes long (R163). -/
  | badShortLength (length : Nat)
  /-- A Short frame whose first byte is not `0x50` (R163). -/
  | badLead (b : Byte)
  /-- A sub-record shorter than its two header bytes (R89). -/
  | recordTooShort (length : Nat)
  /-- A sub-record whose length byte does not count its data (R89). -/
  | recordLength (declared actual : Nat)
  /-- Bytes that are none of the frames the block builds (R200). -/
  | notOutbound
  /-- An outbound Long frame whose CRC bytes, ETX or trailer are not those of its body under the order in force (R192). -/
  | badClosing
  /-- A preset volume field that is not four bytes of decimal digits (R85). -/
  | badBcd
  /-- A script line without a word. -/
  | emptyLine
  /-- A script line whose first word is no step number of R97. -/
  | unknownStep (n : Nat)
  /-- A `host` line whose operation number is not in R350. -/
  | unknownHostOp (n : Nat)
  /-- A step or an operation with the wrong number of operands. -/
  | badOperands (n count : Nat)
  /-- A byte operand outside 0 to 255 (R364). -/
  | byteOutOfRange (n : Nat)
  /-- A boolean operand that is neither 0 nor 1. -/
  | badFlag (n : Nat)
  /-- An `order` operand that is neither `LO_HI` (0) nor `HI_LO` (1) (R364). -/
  | badCrcOrder (n : Nat)
  /-- A pump state operand outside the eight of R260. -/
  | badPumpState (n : Nat)
  /-- A sign word that is neither 0 (not negative) nor 1 (negative), or a negative zero. -/
  | badSign (n : Nat)
  deriving DecidableEq, Repr

/-- What the decoding of a word needs besides the word: the timestamp of the running `Dispatch` (R51; its type is log entry 25), whether the outer command is `0x65` (R96), and the
CRC byte order in force (R65). -/
structure DecodeContext where
  now : Nat
  totals : Bool
  order : CrcOrder
  deriving DecidableEq, Repr

/-- An encoded instruction, with the format it is in (R96). -/
inductive Code where
  | rxLong (bytes : List Byte)
  | rxShort (bytes : List Byte)
  | subRec (bytes : List Byte)
  | statusBase (code : Byte)
  | statusExt (code : Byte)
  | txLong (bytes : List Byte)
  | txShort (bytes : List Byte)
  | host (words : List Nat)
  | step (words : List Nat)
  deriving DecidableEq, Repr

/-! ## Inbound frames -/

/-- The row of a Long frame by its command byte (R88), the catch-all last. -/
def longRow (now : Nat) (command : Byte) (f : LongFrame) : Instr :=
  match command with
  | 0x01#8 => .rxDirectStatus now f
  | 0x30#8 => .rxStatusReply now f
  | 0x31#8 => .rxComposite31 now f
  | 0x32#8 => .rxComposite32 now f
  | 0x33#8 => .rxComposite33 now f
  | 0x34#8 => .rxComposite34 now f
  | 0x35#8 => .rxComposite35 now f
  | 0x36#8 => .rxComposite36 now f
  | 0x37#8 => .rxComposite37 now f
  | 0x38#8 => .rxComposite38 now f
  | 0x39#8 => .rxComposite39 now f
  | 0x3A#8 => .rxComposite3a now f
  | 0x3B#8 => .rxComposite3b now f
  | 0x3C#8 => .rxComposite3c now f
  | 0x3D#8 => .rxComposite3d now f
  | 0x3E#8 => .rxComposite3e now f
  | 0x3F#8 => .rxComposite3f now f
  | 0x65#8 => .rxCompositeTotals now f
  | 0xCD#8 => .rxStatusReplyCd now f
  | 0xD1#8 => .rxAltStatus now f
  | 0xD2#8 => .rxAltVolume now f
  | 0xD3#8 => .rxAltTotals now f
  | 0xD4#8 => .rxAltNozzle now f
  | c => .rxUnknownCommand c f

/-- `fields` of a Long frame (R170), after the checks of R162 on its length and its last two bytes. -/
def splitLong : List Byte → Except Reject (Byte × LongFrame)
  | addr :: command :: rest =>
    match rest.drop (rest.length - 4) with
    | [k1, k2, e, t] =>
      if rest.length ≤ 4 then .error (.frameTooShort (rest.length + 2))
      else if t ≠ Config.trailer then .error (.badTrailer t)
      else if e ≠ Config.etx then .error (.badEtx e)
      else .ok (command, ⟨addr, rest.take (rest.length - 4), k1, k2⟩)
    | _ => .error (.frameTooShort (rest.length + 2))
  | bytes => .error (.frameTooShort bytes.length)

/-- Format RX_LONG. -/
def decodeRxLong (now : Nat) (bytes : List Byte) : Except Reject Instr :=
  (splitLong bytes).map fun cf => longRow now cf.1 cf.2

/-- The row of a Short frame by its code (R93), the catch-all last. -/
def shortRow (code : Byte) : Instr :=
  match code with
  | 0x20#8 => .rxPollEcho
  | 0xC0#8 => .rxAckEcho
  | 0x70#8 => .rxBusy
  | c => .rxUnknownShort c

/-- Format RX_SHORT. -/
def decodeRxShort : List Byte → Except Reject Instr
  | [lead, code, sf] =>
    if lead ≠ Config.shortLead then .error (.badLead lead)
    else if sf ≠ Config.trailer then .error (.badTrailer sf)
    else .ok (shortRow code)
  | bytes => .error (.badShortLength bytes.length)

/-- A queued frame (R23: a shape and its bytes). -/
def decodeFrame (now : Nat) : Shape → List Byte → Except Reject Instr
  | .long, bytes => decodeRxLong now bytes
  | .short, bytes => decodeRxShort bytes

/-! ## Sub-records and status codes -/

/-- The row of a sub-record by `trans` and by whether the outer command is `0x65` (R90). -/
def recordRow (now : Nat) (totals : Bool) (r : SubRecord) : Instr :=
  match r.trans, totals with
  | 0x01#8, o => .subStatus now o r.data
  | 0x02#8, o => .subFilledVolumeAmount o r.data
  | 0x03#8, false => .subNozzlePrice r.data
  | 0x03#8, true => .subTotals r.data
  | t, o => .subUnknownTrans o t r.data

/-- Format SUBREC: exactly one record (R89). -/
def decodeSubRec (now : Nat) (totals : Bool) : List Byte → Except Reject Instr
  | t :: length :: data =>
    if length.toNat = data.length then .ok (recordRow now totals ⟨t, data⟩)
    else .error (.recordLength length.toNat data.length)
  | bytes => .error (.recordTooShort bytes.length)

/-- Format STATUS_BASE (R91, base table). -/
def decodeStatusBase (now : Nat) (code : Byte) : Instr :=
  match code with
  | 0x00#8 => .stNotProgrammed now
  | 0x01#8 => .stReset now
  | 0x02#8 => .stAuthorized now
  | 0x03#8 => .stCode03 now
  | 0x04#8 => .stFilling now
  | 0x05#8 => .stFillingCompleted now
  | 0x06#8 => .stMaxAmountVolume now
  | c => .stUnmapped now c

/-- Format STATUS_EXT (R91, extended table). -/
def decodeStatusExt (now : Nat) (code : Byte) : Instr :=
  match code with
  | 0x00#8 => .stxNotProgrammed now
  | 0x01#8 => .stxReset now
  | 0x02#8 => .stxAuthorized now
  | 0x03#8 => .stxCode03 now
  | 0x04#8 => .stxFilling now
  | 0x05#8 => .stxFillingCompleted now
  | 0x06#8 => .stxMaxAmountVolume now
  | 0x07#8 => .stxSwitchedOff now
  | 0x0B#8 => .stxSuspended now
  | c => .stxUnmapped now c

/-! ## Outbound frames -/

/-- Whether every nibble of a BCD field is a decimal digit. -/
def bcdValid (d : List Byte) : Bool :=
  d.all fun b => decide ((highNibble b).toNat < 10) && decide ((lowNibble b).toNat < 10)

/-- Format TX_LONG, under the CRC byte order in force (R84 to R86). -/
def decodeTxLong (order : CrcOrder) (bytes : List Byte) : Except Reject Instr :=
  match bytes with
  | [addr, command, x, length, y, _, _, _, _] =>
    if command = 0x30#8 ∧ length = 0x01#8 then
      if bytes = encodeGeneric addr x y order then .ok (.txGeneric addr x y) else .error .badClosing
    else if command = 0x3C#8 ∧ x = 0x65#8 ∧ length = 0x01#8 then
      if bytes = encodeTotalsRequest addr y order then .ok (.txTotalsRequest addr y) else .error .badClosing
    else .error .notOutbound
  | [addr, command, x, length, d0, d1, d2, d3, _, _, _, _] =>
    if command = 0x30#8 ∧ x = 0x03#8 ∧ length = 0x04#8 then
      if bytes = longClose [addr, command, x, length, d0, d1, d2, d3] order then
        if bcdValid [d0, d1, d2, d3] then .ok (.txPresetVolume addr (decode4 [d0, d1, d2, d3])) else .error .badBcd
      else .error .badClosing
    else .error .notOutbound
  | _ => .error .notOutbound

/-- Format TX_SHORT (R87). -/
def decodeTxShort (bytes : List Byte) : Except Reject Instr :=
  if bytes = minPoll then .ok .txMinPoll
  else if bytes = minAck then .ok .txMinAck
  else .error .notOutbound

/-! ## Host operations and steps: lines of words (log entry 1) -/

/-- A byte operand (R364). -/
def byteWord (n : Nat) : Except Reject Byte :=
  if n < 256 then .ok (BitVec.ofNat 8 n) else .error (.byteOutOfRange n)

/-- A boolean operand: 0 false, 1 true. -/
def flagWord : Nat → Except Reject Bool
  | 0 => .ok false
  | 1 => .ok true
  | n => .error (.badFlag n)

/-- A CRC order operand: 0 `LO_HI`, 1 `HI_LO`. -/
def orderWord : Nat → Except Reject CrcOrder
  | 0 => .ok .loHi
  | 1 => .ok .hiLo
  | n => .error (.badCrcOrder n)

/-- A pump state operand, numbered in the order of R23. -/
def pumpStateWord : Nat → Except Reject PumpState
  | 0 => .ok .notProgrammed
  | 1 => .ok .reset
  | 2 => .ok .authorized
  | 3 => .ok .filling
  | 4 => .ok .suspended
  | 5 => .ok .fillingCompleted
  | 6 => .ok .maxAmountVolume
  | 7 => .ok .switchedOff
  | n => .error (.badPumpState n)

/-- An integer operand in two words, a sign (1 for negative) and a magnitude. -/
def intWords : Nat → Nat → Except Reject Int
  | 0, m => .ok (Int.ofNat m)
  | 1, m + 1 => .ok (Int.negSucc m)
  | n, _ => .error (.badSign n)

/-- A host operation by its number and operands (R350). -/
def decodeHostOp (op : Nat) (args : List Nat) : Except Reject HostOp :=
  match op, args with
  | 0, [c] => (byteWord c).map .sendGeneric
  | 1, [s, m] => (intWords s m).map .sendPresetVolume
  | 2, [] => .ok .sendTotalsRequest
  | 3, [] => .ok .sendMinPoll
  | 4, [] => .ok .sendMinAck
  | 5, [o] => (orderWord o).map .setCrcOrder
  | 6, [b] => (flagWord b).map .setAutoAck
  | 7, [b, ms] => (flagWord b).map (.setAutoPoll · ms)
  | 8, [a] => (byteWord a).map .transportOpen
  | 9, [] => .ok .transportClose
  | 10, [s] => (pumpStateWord s).map .intentHint
  | n, as => if n ≤ 10 then .error (.badOperands n as.length) else .error (.unknownHostOp n)

/-- The HOST row of an operation. -/
def hostRow : HostOp → Instr
  | .sendGeneric code => .hostSendGeneric code
  | .sendPresetVolume volumeCl => .hostSendPresetVolume volumeCl
  | .sendTotalsRequest => .hostSendTotalsRequest
  | .sendMinPoll => .hostSendMinPoll
  | .sendMinAck => .hostSendMinAck
  | .setCrcOrder order => .hostSetCrcOrder order
  | .setAutoAck b => .hostSetAutoAck b
  | .setAutoPoll b intervalMs => .hostSetAutoPoll b intervalMs
  | .transportOpen addr => .hostTransportOpen addr
  | .transportClose => .hostTransportClose
  | .intentHint state => .hostIntentHint state

/-- Format HOST: the operation number, then its operands. -/
def decodeHost : List Nat → Except Reject Instr
  | [] => .error .emptyLine
  | op :: args => (decodeHostOp op args).map hostRow

/-- Format STEP (R97): the step number, then its operands. -/
def decodeStep : List Nat → Except Reject Instr
  | [] => .error .emptyLine
  | [0, b] => (byteWord b).map .stepRxByte
  | [1, now] => .ok (.stepDispatch now)
  | [2] => .ok .stepTimerFire
  | 3 :: op :: args => (decodeHostOp op args).map .stepHost
  | [4] => .ok .stepTransportFault
  | [5] => .ok (.stepSessionReset none)
  | [5, n, t] => .ok (.stepSessionReset (some ⟨n, t⟩))
  | n :: args => if n ≤ 5 then .error (.badOperands n args.length) else .error (.unknownStep n)

/-- The decoder: a format's word, in its context, gives an instruction or a named rejection. -/
def decode (c : DecodeContext) : Code → Except Reject Instr
  | .rxLong bytes => decodeRxLong c.now bytes
  | .rxShort bytes => decodeRxShort bytes
  | .subRec bytes => decodeSubRec c.now c.totals bytes
  | .statusBase code => .ok (decodeStatusBase c.now code)
  | .statusExt code => .ok (decodeStatusExt c.now code)
  | .txLong bytes => decodeTxLong c.order bytes
  | .txShort bytes => decodeTxShort bytes
  | .host words => decodeHost words
  | .step words => decodeStep words

/-! ## The encoder -/

/-- The word of a boolean. -/
def ofFlag (b : Bool) : Nat := if b then 1 else 0

/-- The word of a CRC order. -/
def ofOrder : CrcOrder → Nat
  | .loHi => 0
  | .hiLo => 1

/-- The word of a pump state (order of R23). -/
def ofPumpState : PumpState → Nat
  | .notProgrammed => 0
  | .reset => 1
  | .authorized => 2
  | .filling => 3
  | .suspended => 4
  | .fillingCompleted => 5
  | .maxAmountVolume => 6
  | .switchedOff => 7

/-- The two words of an integer. -/
def ofInt : Int → List Nat
  | .ofNat m => [0, m]
  | .negSucc m => [1, m + 1]

/-- The words of a host operation (R350). -/
def encodeHostOp : HostOp → List Nat
  | .sendGeneric code => [0, code.toNat]
  | .sendPresetVolume volumeCl => 1 :: ofInt volumeCl
  | .sendTotalsRequest => [2]
  | .sendMinPoll => [3]
  | .sendMinAck => [4]
  | .setCrcOrder order => [5, ofOrder order]
  | .setAutoAck b => [6, ofFlag b]
  | .setAutoPoll b intervalMs => [7, ofFlag b, intervalMs]
  | .transportOpen addr => [8, addr.toNat]
  | .transportClose => [9]
  | .intentHint state => [10, ofPumpState state]

/-- The words of a script line (R97). -/
def encodeSessionReset : Option Counters → List Nat
  | none => [5]
  | some c => [5, c.vehicleCount, c.totalCl]

/-- The encoder, under the CRC byte order in force for outbound frames: the context and the word that the decoder reads back as the instruction. -/
def encode (order : CrcOrder) : Instr → DecodeContext × Code
  | .rxDirectStatus now f => (⟨now, false, order⟩, .rxLong (longFrameBytes 0x01#8 f))
  | .rxStatusReply now f => (⟨now, false, order⟩, .rxLong (longFrameBytes 0x30#8 f))
  | .rxComposite31 now f => (⟨now, false, order⟩, .rxLong (longFrameBytes 0x31#8 f))
  | .rxComposite32 now f => (⟨now, false, order⟩, .rxLong (longFrameBytes 0x32#8 f))
  | .rxComposite33 now f => (⟨now, false, order⟩, .rxLong (longFrameBytes 0x33#8 f))
  | .rxComposite34 now f => (⟨now, false, order⟩, .rxLong (longFrameBytes 0x34#8 f))
  | .rxComposite35 now f => (⟨now, false, order⟩, .rxLong (longFrameBytes 0x35#8 f))
  | .rxComposite36 now f => (⟨now, false, order⟩, .rxLong (longFrameBytes 0x36#8 f))
  | .rxComposite37 now f => (⟨now, false, order⟩, .rxLong (longFrameBytes 0x37#8 f))
  | .rxComposite38 now f => (⟨now, false, order⟩, .rxLong (longFrameBytes 0x38#8 f))
  | .rxComposite39 now f => (⟨now, false, order⟩, .rxLong (longFrameBytes 0x39#8 f))
  | .rxComposite3a now f => (⟨now, false, order⟩, .rxLong (longFrameBytes 0x3A#8 f))
  | .rxComposite3b now f => (⟨now, false, order⟩, .rxLong (longFrameBytes 0x3B#8 f))
  | .rxComposite3c now f => (⟨now, false, order⟩, .rxLong (longFrameBytes 0x3C#8 f))
  | .rxComposite3d now f => (⟨now, false, order⟩, .rxLong (longFrameBytes 0x3D#8 f))
  | .rxComposite3e now f => (⟨now, false, order⟩, .rxLong (longFrameBytes 0x3E#8 f))
  | .rxComposite3f now f => (⟨now, false, order⟩, .rxLong (longFrameBytes 0x3F#8 f))
  | .rxCompositeTotals now f => (⟨now, false, order⟩, .rxLong (longFrameBytes 0x65#8 f))
  | .rxStatusReplyCd now f => (⟨now, false, order⟩, .rxLong (longFrameBytes 0xCD#8 f))
  | .rxAltStatus now f => (⟨now, false, order⟩, .rxLong (longFrameBytes 0xD1#8 f))
  | .rxAltVolume now f => (⟨now, false, order⟩, .rxLong (longFrameBytes 0xD2#8 f))
  | .rxAltTotals now f => (⟨now, false, order⟩, .rxLong (longFrameBytes 0xD3#8 f))
  | .rxAltNozzle now f => (⟨now, false, order⟩, .rxLong (longFrameBytes 0xD4#8 f))
  | .rxUnknownCommand c f => (⟨0, false, order⟩, .rxLong (longFrameBytes c f))
  | .rxPollEcho => (⟨0, false, order⟩, .rxShort (shortFrameBytes 0x20#8))
  | .rxAckEcho => (⟨0, false, order⟩, .rxShort (shortFrameBytes 0xC0#8))
  | .rxBusy => (⟨0, false, order⟩, .rxShort (shortFrameBytes 0x70#8))
  | .rxUnknownShort c => (⟨0, false, order⟩, .rxShort (shortFrameBytes c))
  | .subStatus now o data => (⟨now, o, order⟩, .subRec (subRecordBytes 0x01#8 data))
  | .subFilledVolumeAmount o data => (⟨0, o, order⟩, .subRec (subRecordBytes 0x02#8 data))
  | .subNozzlePrice data => (⟨0, false, order⟩, .subRec (subRecordBytes 0x03#8 data))
  | .subTotals data => (⟨0, true, order⟩, .subRec (subRecordBytes 0x03#8 data))
  | .subUnknownTrans o t data => (⟨0, o, order⟩, .subRec (subRecordBytes t data))
  | .stNotProgrammed now => (⟨now, false, order⟩, .statusBase 0x00#8)
  | .stReset now => (⟨now, false, order⟩, .statusBase 0x01#8)
  | .stAuthorized now => (⟨now, false, order⟩, .statusBase 0x02#8)
  | .stCode03 now => (⟨now, false, order⟩, .statusBase 0x03#8)
  | .stFilling now => (⟨now, false, order⟩, .statusBase 0x04#8)
  | .stFillingCompleted now => (⟨now, false, order⟩, .statusBase 0x05#8)
  | .stMaxAmountVolume now => (⟨now, false, order⟩, .statusBase 0x06#8)
  | .stUnmapped now c => (⟨now, false, order⟩, .statusBase c)
  | .stxNotProgrammed now => (⟨now, false, order⟩, .statusExt 0x00#8)
  | .stxReset now => (⟨now, false, order⟩, .statusExt 0x01#8)
  | .stxAuthorized now => (⟨now, false, order⟩, .statusExt 0x02#8)
  | .stxCode03 now => (⟨now, false, order⟩, .statusExt 0x03#8)
  | .stxFilling now => (⟨now, false, order⟩, .statusExt 0x04#8)
  | .stxFillingCompleted now => (⟨now, false, order⟩, .statusExt 0x05#8)
  | .stxMaxAmountVolume now => (⟨now, false, order⟩, .statusExt 0x06#8)
  | .stxSwitchedOff now => (⟨now, false, order⟩, .statusExt 0x07#8)
  | .stxSuspended now => (⟨now, false, order⟩, .statusExt 0x0B#8)
  | .stxUnmapped now c => (⟨now, false, order⟩, .statusExt c)
  | .txPresetVolume addr volumeCl => (⟨0, false, order⟩, .txLong (encodePreset addr volumeCl order))
  | .txGeneric addr nozzle code => (⟨0, false, order⟩, .txLong (encodeGeneric addr nozzle code order))
  | .txTotalsRequest addr nozzle => (⟨0, false, order⟩, .txLong (encodeTotalsRequest addr nozzle order))
  | .txMinPoll => (⟨0, false, order⟩, .txShort minPoll)
  | .txMinAck => (⟨0, false, order⟩, .txShort minAck)
  | .hostSendGeneric code => (⟨0, false, order⟩, .host (encodeHostOp (.sendGeneric code)))
  | .hostSendPresetVolume volumeCl => (⟨0, false, order⟩, .host (encodeHostOp (.sendPresetVolume volumeCl)))
  | .hostSendTotalsRequest => (⟨0, false, order⟩, .host (encodeHostOp .sendTotalsRequest))
  | .hostSendMinPoll => (⟨0, false, order⟩, .host (encodeHostOp .sendMinPoll))
  | .hostSendMinAck => (⟨0, false, order⟩, .host (encodeHostOp .sendMinAck))
  | .hostSetCrcOrder order => (⟨0, false, order⟩, .host (encodeHostOp (.setCrcOrder order)))
  | .hostSetAutoAck b => (⟨0, false, order⟩, .host (encodeHostOp (.setAutoAck b)))
  | .hostSetAutoPoll b intervalMs => (⟨0, false, order⟩, .host (encodeHostOp (.setAutoPoll b intervalMs)))
  | .hostTransportOpen addr => (⟨0, false, order⟩, .host (encodeHostOp (.transportOpen addr)))
  | .hostTransportClose => (⟨0, false, order⟩, .host (encodeHostOp .transportClose))
  | .hostIntentHint state => (⟨0, false, order⟩, .host (encodeHostOp (.intentHint state)))
  | .stepRxByte b => (⟨0, false, order⟩, .step [0, b.toNat])
  | .stepDispatch now => (⟨0, false, order⟩, .step [1, now])
  | .stepTimerFire => (⟨0, false, order⟩, .step [2])
  | .stepHost op => (⟨0, false, order⟩, .step (3 :: encodeHostOp op))
  | .stepTransportFault => (⟨0, false, order⟩, .step [4])
  | .stepSessionReset load => (⟨0, false, order⟩, .step (encodeSessionReset load))

/-! ## The opcode table's numbers

A table row's number has no format in it and the formats' numbers overlap (`0x01` is a command byte, a status code under two tables, an operation and a step), so an order of
preference is fixed (log entry 16): for no bits the command byte 0; for one byte the steps 0 to 5, the operations 6 to 10, the extended status code `0x0B`, then the command bytes; for two bytes the sub-records;
for three bytes the Short frames, the heads of outbound Long frames, then the sub-records. Every bit above the row's is 0, but for what the layout fixes: the trailer, the ETX, and CRC bytes of the body. -/

/-- The least byte of a number. -/
def lowByte (w : Nat) : Byte := BitVec.ofNat 8 w

/-- The words of an operation whose operands are zeros. -/
def hostZeros (op : Nat) : List Nat :=
  op :: (match op with
    | 1 => [0, 0]
    | 7 => [0, 0]
    | 0 => [0]
    | 5 => [0]
    | 6 => [0]
    | 8 => [0]
    | 10 => [0]
    | _ => [])

/-- The words of a step whose operands are zeros. -/
def stepZeros (n : Nat) : List Nat :=
  match n with
  | 0 => [0, 0]
  | 1 => [1, 0]
  | 3 => 3 :: hostZeros 0
  | k => [k]

/-- The word laid out for a table number of `nbits` bits. -/
def tableCode (nbits w : Nat) : Option (DecodeContext × Code) :=
  let zero : DecodeContext := ⟨0, false, .loHi⟩
  if nbits = 0 then some (zero, .rxLong (longClose [0x00#8, 0x00#8, 0x00#8] .loHi))
  else if nbits ≤ 8 then
    if 256 ≤ w then none
    else if w ≤ 5 then some (zero, .step (stepZeros w))
    else if w ≤ 10 then some (zero, .host (hostZeros w))
    else if w = 0x0B then some (zero, .statusExt 0x0B#8)
    else some (zero, .rxLong (longClose [0x00#8, lowByte w, 0x00#8] .loHi))
  else if nbits ≤ 24 then
    if w < 0x200 then some (⟨0, decide (0x100 ≤ w), .loHi⟩, .subRec [lowByte w, 0x00#8])
    else if nbits ≤ 16 then none
    else if w / 0x10000 = 0x50 then some (zero, .rxShort [lowByte (w / 0x10000), lowByte (w / 0x100), lowByte w])
    else if w = 0x300304 then some (zero, .txLong (longClose [0x00#8, 0x30#8, 0x03#8, 0x04#8, 0x00#8, 0x00#8, 0x00#8, 0x00#8] .loHi))
    else if w < 0x1000000 then
      some (zero, .txLong (longClose [0x00#8, lowByte (w / 0x10000), lowByte (w / 0x100), lowByte w, 0x00#8] .loHi))
    else none
  else none

/-- The instruction the decoder reads from a table number. -/
def decodeTableWord (nbits w : Nat) : Option Instr :=
  (tableCode nbits w).bind fun cc => (decode cc.1 cc.2).toOption

end Sys2Proof
end

