-- ==== Sys2Proof/Machine/State.lean ====
section
/-! DEFINITION. The state of the block as plain data (10_state.md), its events (R381), the reasons a step can stop, and the state after reset (R52). -/

namespace Sys2Proof.Machine

open Sys2Proof

/-- The kinds of `decode-warning` (R383), each with the numbers it records. -/
inductive Warning where
  | lengthMismatch (declared observed : Nat)
  | subRecordTruncated (pos : Nat)
  | unknownCommand (command : Byte)
  | unknownTrans (trans : Byte)
  | unknownShortCode (code : Byte)
  | unknownStatus (code : Byte)
  | badPayloadShape (length : Nat)
  | badSubRecordShape (trans : Byte) (length : Nat)
  | noSampleInSale
  deriving DecidableEq, Repr

/-- The reasons of `command-refused` (R389). -/
inductive RefuseReason where
  | noHandshake
  | nozzleStowed
  | presetAlreadySent
  deriving DecidableEq, Repr

/-- The kinds of `soft-fail` (R381). -/
inductive SoftFailKind where
  | decodeAfterClose
  deriving DecidableEq, Repr

/-- The events (R381). -/
inductive Event where
  | frameTrace (rawBytes : List Byte) (crcOk : Bool)
  | statusChanged (state : PumpState)
  | volumeSample (volumeCl amountC : Nat)
  | nozzleChanged (out : Bool)
  | totalsReport (nozzle : Byte) (t0 t1 t2 : Nat)
  | handshakeAcquired
  | decodeWarning (w : Warning)
  | commandRefused (reason : RefuseReason)
  | transportFault
  | sendFailed
  | softFail (kind : SoftFailKind)
  | saleOpened
  | countersSave (vehicleCount totalCl : Nat)
  | statusHint (state : PumpState)
  deriving DecidableEq, Repr

/-- A frame in `frameQ`: "the pair `(shape, bytes)`" (R23). -/
structure Frame where
  shape : Shape
  bytes : List Byte
  deriving DecidableEq, Repr

/-- The handshake state (R40, R41, R42). The type of the timestamp, an unbounded natural, is the model's (DESIGN CHOICE, log entry 25). -/
structure Handshake where
  ok : Bool
  everOk : Bool
  lastOkTimestamp : Option Nat
  deriving DecidableEq, Repr

/-- The sale window (R44 to R47). -/
structure Sale where
  active : Bool
  hasVolumeSample : Bool
  lastVolumeCl : Nat
  lastAmountC : Nat
  presetTargetMl : Option Nat
  stopSent : Bool
  cd3SentThisSale : Bool
  countersBumped : Bool
  authorizePending : Bool
  deriving DecidableEq, Repr

/-- The state of the block. `cfg` and `script` are the model's own fields; every other field is one of 10_state.md. -/
structure State where
  /-- The parameters of R5 (log entry 3). -/
  cfg : Config.Params
  /-- R30. -/
  crcOrder : CrcOrder
  /-- R31. -/
  autoAck : Bool
  /-- R32. -/
  autoPoll : Bool
  /-- R32. -/
  pollIntervalMs : Nat
  /-- R33. -/
  deviceAddr : Byte
  /-- R34. -/
  nozzle : Byte
  /-- R35. -/
  transportOpen : Bool
  /-- R36. -/
  txFaulted : Bool
  /-- R38. -/
  pumpState : PumpState
  /-- R39. -/
  hintState : Option PumpState
  /-- R40 to R42. -/
  hs : Handshake
  /-- R43; `none` is "unknown". -/
  nozzleOut : Option Bool
  /-- R43. -/
  lastNozzle : Option Nibble
  /-- R43. -/
  lastPriceRaw : Option Nat
  /-- R44 to R47. -/
  sale : Sale
  /-- R48. -/
  counters : Counters
  /-- R61, the receive buffer. -/
  rxBuf : List Byte
  /-- R62, the frame queue, oldest first. -/
  frameQ : List Frame
  /-- R63, the transmit stream, oldest first. -/
  tx : List (List Byte)
  /-- R64, the event stream, oldest first. -/
  evt : List Event
  /-- The environment's pending steps (log entry 1): one line a step. -/
  script : List (List Nat)
  deriving DecidableEq, Repr

/-- Why a step stops with a fault. -/
inductive Fault where
  /-- `RxByte` raises it when the receive buffer already holds a finite `RX_CAP` bytes (R61, D6). Safe: the spec asks for this fault. -/
  | rxOverflow
  /-- `RxByte` raises it when a frame is cut while the queue already holds a finite `QUEUE_CAP` frames (R62, D7). Safe: the spec asks for this fault. -/
  | queueOverflow
  /-- `Dispatch` raises it on a queue entry without the form of R23 (shape Long without 7 bytes ending `03 FA`, shape Short other than `50 xx FA`). Safe: no reachable
  state holds such an entry (R53 (c)); log entry 10. -/
  | malformedFrame (why : Reject)
  /-- `Dispatch` would raise it if a queued frame decoded to an instruction that is no inbound frame. Safe: the decoder never does so; log entry 10. -/
  | notAFrame
  deriving DecidableEq, Repr

/-- Why a step is refused. -/
inductive Refusal where
  /-- An arm of `exec` whose instruction has no meaning yet raises it. Safe. No arm does. -/
  | notModelled (mnemonic : String)
  /-- The dispatch of a CRC-valid `0xD1` to `0xD4` frame raises it while `ALT_DECODE` is none (R220, R399). Safe: the spec asks for this refusal. -/
  | altFrameLayoutUnknown (command : Byte)
  /-- `RxByte` raises it with `ETX_ADJACENT = false` on a candidate that the other reading would cut, because that reading does not say where its payload and
  CRC lie (R162, U19). Safe: the spec asks for this refusal; log entry 6. -/
  | etxPlacementUnspecified
  /-- `step` raises it on a script line that is no step of R97 or has an operand outside its type (R364). Safe; log entry 1. -/
  | badScriptLine (why : Reject)
  deriving DecidableEq, Repr

/-- The sale window at the start of a session (R52). -/
def Sale.initial : Sale := ⟨false, false, 0, 0, none, false, false, false, false⟩

/-- The state at the start of a session (R52, R420): every field of the block at its reset value under the parameters `p`. The environment's pending steps are not the block's
and stay. -/
def State.session (p : Config.Params) (script : List (List Nat)) : State where
  cfg := p
  crcOrder := Config.resetCrcOrder
  autoAck := p.resetAutoAck
  autoPoll := p.resetAutoPoll
  pollIntervalMs := Config.resetPollMs
  deviceAddr := p.deviceAddr
  nozzle := p.nozzle
  transportOpen := true
  txFaulted := false
  pumpState := .reset
  hintState := none
  hs := ⟨false, false, none⟩
  nozzleOut := none
  lastNozzle := none
  lastPriceRaw := none
  sale := Sale.initial
  counters := p.load
  rxBuf := []
  frameQ := []
  tx := []
  evt := []
  script := script

/-- The machine right after reset (R52), with the default parameters and no pending step (R421: "It waits for steps"). -/
def State.reset : State := State.session Config.Params.default []

end Sys2Proof.Machine
end

