-- ==== Sys2Proof/Machine/Flags.lean ====
section
/-! DEFINITION. Every condition the rules test: state classes (R261), the status tables (R262), the gate (R283), the send path's guard (R199), the enabling conditions (R391). The
block has no arithmetic condition codes (R24). -/

namespace Sys2Proof.Machine

open Sys2Proof

/-- The states that open a sale window (R261). -/
def opensSale : PumpState → Bool
  | .authorized => true
  | .filling => true
  | .notProgrammed => false
  | .reset => false
  | .suspended => false
  | .fillingCompleted => false
  | .maxAmountVolume => false
  | .switchedOff => false

/-- `TERMINAL` (R261, R310). -/
def isTerminal : PumpState → Bool
  | .notProgrammed => true
  | .reset => true
  | .fillingCompleted => true
  | .maxAmountVolume => true
  | .switchedOff => true
  | .authorized => false
  | .filling => false
  | .suspended => false

/-- `RESET_CLASS` (R261, R310). -/
def isResetClass : PumpState → Bool
  | .notProgrammed => true
  | .reset => true
  | .switchedOff => true
  | .authorized => false
  | .filling => false
  | .suspended => false
  | .fillingCompleted => false
  | .maxAmountVolume => false

/-- `mapStatus` (R262); `none` is "unmapped". Codes 01, 02, 03 and 05 are parameters (R263; log entry 4). -/
def mapStatus (p : Config.Params) (code : Byte) (table : StatusTable) : Option PumpState :=
  match code with
  | 0x00#8 => some .notProgrammed
  | 0x01#8 => p.statusCode01
  | 0x02#8 => p.statusCode02
  | 0x03#8 => p.statusCode03
  | 0x04#8 => some .filling
  | 0x05#8 => p.statusCode05
  | 0x06#8 => some .maxAmountVolume
  | 0x07#8 => if table = .extended then some .switchedOff else none
  | 0x0B#8 => if table = .extended then some .suspended else none
  | _ => none

/-- What the gate is asked to admit (R283). -/
inductive Request where
  | generic (code : Byte)
  | preset
  | totals
  | minPoll
  | minAck
  deriving DecidableEq, Repr

/-- `gateAdmits` (R283). -/
def gateAdmits (s : State) : Request → Bool
  | .generic code => s.hs.ok || s.cfg.readQueryCodes.contains code
  | .preset => s.hs.ok
  | .totals => s.hs.ok || s.cfg.totalsIsReadQuery
  | .minPoll => true
  | .minAck => true

/-- The RESUME check (R352): the code is RESUME's and the nozzle is not known to be out. -/
def resumeRefused (s : State) (code : Byte) : Bool :=
  s.cfg.codeResume == some code && s.nozzleOut != some true

/-- Whether `send` writes (R199). -/
def canSend (s : State) : Bool := s.transportOpen && !s.txFaulted

/-- Whether `TimerFire` is enabled (R293). -/
def timerEnabled (s : State) : Bool := s.autoPoll && s.transportOpen

/-- Whether the preset watch fires on a sample (R318). -/
def stopDue (s : State) (volumeCl : Nat) : Bool :=
  match s.sale.presetTargetMl with
  | none => false
  | some target => !s.sale.stopSent && decide (target ≤ 10 * volumeCl)

/-- Whether a finite capacity is reached (R61, R62); an absent capacity never is. -/
def atCapacity (cap : Option Nat) (length : Nat) : Bool :=
  match cap with
  | none => false
  | some c => decide (c ≤ length)

/-- The state shown to the host (R268, R39). -/
def displayState (s : State) : PumpState := s.hintState.getD s.pumpState

end Sys2Proof.Machine
end

