-- ==== Sys2Proof/Machine/Operands.lean ====
section
/-! DEFINITION. How the operands of frames and records are read: the CRC check (R171), the header length byte (R175), the shapes of the frame codec (R162, R163), the
sub-records of a payload (R225), the fields of a record (R90). -/

namespace Sys2Proof.Machine

open Sys2Proof

/-! ## Frame shapes -/

/-- The long shape (R162): at least 7 bytes, `0x03` immediately before the last. -/
def hasLongShape (cand : List Byte) : Bool :=
  decide (Config.minLongLen ≤ cand.length) && cand[cand.length - 2]? == some Config.etx

/-- The long shape with `ETX_ADJACENT = false` (R162): at least 7 bytes, some `0x03` before the last. -/
def hasLongShapeLoose (cand : List Byte) : Bool :=
  decide (Config.minLongLen ≤ cand.length) && cand.dropLast.contains Config.etx

/-- The short shape (R163), of a candidate that ends at a trailer position. -/
def hasShortShape (cand : List Byte) : Bool :=
  cand.length == 3 && cand.head? == some Config.shortLead

/-! ## Fields of a Long frame -/

/-- `crcOk` of a Long frame (R171): the CRC of address, command and payload against the two CRC bytes. -/
def crcOk (command : Byte) (f : LongFrame) (order : CrcOrder) : Bool :=
  crcPair (crcCompute ([f.addr, command] ++ f.payload)) order == [f.crc1, f.crc2]

/-- Whether the length check is suppressed for a command (R175). -/
def lengthCheckSuppressed (command : Byte) : Bool :=
  decide (0x30 ≤ command.toNat) && decide (command.toNat ≤ 0x3F)

/-- The length warning of a CRC-valid frame, if it earns one (R175, R99). -/
def lengthWarning (command : Byte) (payload : List Byte) : Option Warning :=
  match payload with
  | _ :: declared :: rest =>
    if lengthCheckSuppressed command then none
    else if declared.toNat = rest.length then none
    else some (.lengthMismatch declared.toNat rest.length)
  | _ => none

/-! ## Sub-records -/

/-- The records of a payload from index `pos` on, in order, and the index of the malformed one that ends the walk, if any (R225). The first argument bounds
the number of records. -/
def splitRecordsFrom : Nat → Nat → List Byte → List SubRecord × Option Nat
  | _, _, [] => ([], none)
  | 0, pos, _ :: _ => ([], some pos)
  | _ + 1, pos, [_] => ([], some pos)
  | n + 1, pos, t :: length :: rest =>
    if rest.length < length.toNat then ([], some pos)
    else
      let r := splitRecordsFrom n (pos + 2 + length.toNat) (rest.drop length.toNat)
      (⟨t, rest.take length.toNat⟩ :: r.1, r.2)

/-- The records of a payload (R225); each takes at least two bytes. -/
def splitRecords (payload : List Byte) : List SubRecord × Option Nat :=
  splitRecordsFrom payload.length 0 payload

/-- The bytes `data[i .. i+n]` of a record (R11). -/
def dataSlice (data : List Byte) (i n : Nat) : List Byte := (data.drop i).take n

/-- The nozzle status byte of a NozzlePrice record, `data[3]` (R90). -/
def nozzleStatusByte (data : List Byte) : Byte := data.getD 3 0x00#8

/-- The item of a NozzlePrice record of 4 data bytes (R233, R95): bits 7:5 of the status byte are ignored. The polarity of bit 4 is a parameter (log entry 4). -/
def nozzlePriceItem (p : Config.Params) (data : List Byte) : Item :=
  let st := nozzleStatusByte data
  .nozzlePrice (decode3 (dataSlice data 0 3)) (lowNibble st) (st.getLsbD 4 == p.nozzleOutBit)

/-- The item of a FilledVolumeAmount record of 8 data bytes (R232). -/
def volumeItem (data : List Byte) : Item :=
  .volume (decode4 (dataSlice data 0 4)) (decode4 (dataSlice data 4 4))

/-- The item of a Totals record of 16 data bytes (R234). -/
def totalsItem (data : List Byte) : Item :=
  .totals (data.getD 0 0x00#8) (decode5 (dataSlice data 1 5)) (decode5 (dataSlice data 6 5)) (decode5 (dataSlice data 11 5))

/-! ## Alternate frames -/

/-- `ALT_DECODE` (R220), supplied: each command's items, of the kind R219 (b) and D13 give it. The function is defined for `0xD1` to `0xD4` alone (R220) and asked of no other. -/
def altDecode (command : Byte) (payload : List Byte) : Option (List Item) :=
  match command with
  | 0xD1#8 => (Config.altStatus payload).map (List.map fun x => .status x.1 x.2)
  | 0xD2#8 => (Config.altVolume payload).map (List.map fun x => .volume x.1 x.2)
  | 0xD3#8 => (Config.altTotals payload).map (List.map fun x => .totals x.1 x.2.1 x.2.2.1 x.2.2.2)
  | 0xD4#8 => (Config.altNozzle payload).map (List.map fun x => .nozzlePrice x.1 x.2.1 x.2.2)
  | _ => none

end Sys2Proof.Machine
end

