-- ==== Sys2Proof/Machine/Ops.lean ====
section
/-! DEFINITION. The named operations over the state: reporting an event (what stands in for taking an exception, R393), the guarded transmit (R199), the handshake (R281), the pump state
machine (R264, R265), the generic command path (R351), and the buffers (R14). -/

namespace Sys2Proof.Machine

open Sys2Proof

/-- The outcome of a step of this machine. -/
abbrev Result := Host.Outcome State Fault Refusal

/-! ## Reports

"What stands in for trap entry" (R393): an event is appended to `evt` and nothing else changes; no pc, status or mode is saved, and there is nothing to return from (R394). -/

/-- `emit E` (R14): the one operation that takes an exception of this block. -/
def emit (e : Event) (s : State) : State := { s with evt := s.evt ++ [e] }

/-- `emit decode-warning` (R383). -/
def warn (w : Warning) (s : State) : State := emit (.decodeWarning w) s

/-- A warning where there is one. -/
def warnIf (w : Option Warning) (s : State) : State :=
  match w with
  | none => s
  | some w => warn w s

/-! ## Transmit -/

/-- `send` (R199): whether the bytes were written, and the state after. -/
def send (bytes : List Byte) (s : State) : Bool × State :=
  if canSend s then (true, { s with tx := s.tx ++ [bytes] }) else (false, emit .sendFailed s)

/-- `issueGeneric` (R351): the gate, the RESUME check, then the send. -/
def issueGeneric (code : Byte) (s : State) : Bool × State :=
  if !gateAdmits s (.generic code) then (false, emit (.commandRefused .noHandshake) s)
  else if resumeRefused s code then (false, emit (.commandRefused .nozzleStowed) s)
  else send (encodeGeneric s.deviceAddr s.nozzle code s.crcOrder) s

/-! ## Buffers -/

/-- `append(frameQ, f)` with `clear(rxBuf)` (R164); a finite `QUEUE_CAP` that is reached makes it a fault (R62). -/
def enqueueBuffer (shape : Shape) (s : State) : Result :=
  if atCapacity s.cfg.queueCap s.frameQ.length then .fault .queueOverflow
  else .next { s with frameQ := s.frameQ ++ [⟨shape, s.rxBuf⟩], rxBuf := [] }

/-- The codec's test at a trailer position (R164, R83), the long shape first. With `ETX_ADJACENT = false` a candidate of the other reading's long shape is refused (log entry 6). -/
def cutFrame (s : State) : Result :=
  if !s.cfg.etxAdjacent && hasLongShapeLoose s.rxBuf then .refused .etxPlacementUnspecified
  else if hasLongShape s.rxBuf then enqueueBuffer .long s
  else if hasShortShape s.rxBuf then enqueueBuffer .short s
  else .next s

/-- `RxByte(b)` (R164). It does not read `transportOpen` (R168). -/
def receiveByte (b : Byte) (s : State) : Result :=
  if atCapacity s.cfg.rxCap s.rxBuf.length then .fault .rxOverflow
  else
    let s1 := { s with rxBuf := s.rxBuf ++ [b] }
    if b = Config.trailer then cutFrame s1 else .next s1

/-! ## Sale window (47_sale_preset_tracker.md) -/

/-- `openWindow` (R311). -/
def openWindow (s : State) : State :=
  emit .saleOpened
    { s with sale := { s.sale with
        active := true
        hasVolumeSample := false
        lastVolumeCl := 0
        lastAmountC := 0
        stopSent := false
        countersBumped := false } }

/-- The counter bump of a closing window (R313). -/
def bumpCounters (s : State) : State :=
  let c : Counters := ⟨s.counters.vehicleCount + 1, s.counters.totalCl + s.sale.lastVolumeCl⟩
  emit (.countersSave c.vehicleCount c.totalCl)
    { s with counters := c, sale := { s.sale with countersBumped := true } }

/-- The bump, or the diagnostic that no sample was seen (R313). -/
def settleSale (s : State) : State :=
  if s.sale.hasVolumeSample && !s.sale.countersBumped then bumpCounters s
  else if !s.sale.hasVolumeSample then warn .noSampleInSale s
  else s

/-- `closeWindow` (R313). -/
def closeWindow (s : State) : State :=
  let s1 := settleSale s
  { s1 with sale := { s1.sale with active := false, presetTargetMl := none } }

/-- `clearSaleMemory` (R314). -/
def clearSaleMemory (s : State) : State :=
  { s with sale := { s.sale with
      hasVolumeSample := false
      lastVolumeCl := 0
      lastAmountC := 0
      stopSent := false
      cd3SentThisSale := false } }

/-- `onStatus` (R310): the three tests, in that order. -/
def onStatus (prev new : PumpState) (s : State) : State :=
  let s1 := if opensSale new && !s.sale.active then openWindow s else s
  let s2 := if isTerminal new && s1.sale.active then closeWindow s1 else s1
  if isResetClass new && prev != new then clearSaleMemory s2 else s2

/-- `autoStop` (R318): `stopSent` is set only when the send succeeded. -/
def autoStop (volumeCl : Nat) (s : State) : State :=
  if stopDue s volumeCl then
    let r := issueGeneric s.cfg.codeStop s
    if r.1 then { r.2 with sale := { r.2.sale with stopSent := true } } else r.2
  else s

/-- The memory part of `sample` (R316): kept only while a window is active. -/
def rememberSample (volumeCl amountC : Nat) (s : State) : State :=
  if s.sale.active then
    { s with sale := { s.sale with hasVolumeSample := true, lastVolumeCl := volumeCl, lastAmountC := amountC } }
  else s

/-- `sample` (R316). -/
def sample (volumeCl amountC : Nat) (s : State) : State :=
  autoStop volumeCl (rememberSample volumeCl amountC s)

/-! ## Handshake and pump state machine -/

/-- `handshakeTouch` (R281). -/
def handshakeTouch (now : Nat) (s : State) : State :=
  if s.hs.ok then { s with hs := { s.hs with lastOkTimestamp := some now } }
  else emit .handshakeAcquired { s with hs := ⟨true, true, some now⟩ }

/-- `setState` (R265): no transition is rejected. -/
def setState (new : PumpState) (s : State) : State :=
  let s1 := emit (.statusChanged new) { s with pumpState := new, hintState := none }
  if s.cfg.trackerPresent then onStatus s.pumpState new s1 else s1

/-- `statusEvent` (R264); an unmapped code only warns (R266). -/
def statusEvent (code : Byte) (table : StatusTable) (s : State) : State :=
  match mapStatus s.cfg code table with
  | none => warn (.unknownStatus code) s
  | some new => setState new s

/-! ## Items -/

/-- A status item (R237, case `Status`): the handshake first, then the state machine. -/
def statusItem (code : Byte) (table : StatusTable) (now : Nat) (s : State) : State :=
  statusEvent code table (handshakeTouch now s)

/-- A volume item (R237, case `Volume`). -/
def applyVolume (volumeCl amountC : Nat) (s : State) : State :=
  let s1 := emit (.volumeSample volumeCl amountC) s
  if s.cfg.trackerPresent then sample volumeCl amountC s1 else s1

/-- A nozzle item (R237, case `NozzlePrice`). -/
def applyNozzlePrice (priceRaw : Nat) (nozzle : Nibble) (out : Bool) (s : State) : State :=
  emit (.nozzleChanged out)
    { s with lastPriceRaw := some priceRaw, lastNozzle := some nozzle, nozzleOut := some out }

/-- `applyItem` (R237). -/
def applyItem (now : Nat) (item : Item) (s : State) : State :=
  match item with
  | .status code table => statusItem code table now s
  | .volume volumeCl amountC => applyVolume volumeCl amountC s
  | .nozzlePrice priceRaw nozzle out => applyNozzlePrice priceRaw nozzle out s
  | .totals nozzle t0 t1 t2 => emit (.totalsReport nozzle t0 t1 t2) s

/-- Items in order (R219). -/
def applyItems (now : Nat) (items : List Item) (s : State) : State :=
  items.foldl (fun s item => applyItem now item s) s

/-! ## Long frames -/

/-- `Dispatch` while the transport is closed (R211). -/
def dropClosed (s : State) : State := emit (.softFail .decodeAfterClose) s

/-- The auto-acknowledge (R296). -/
def autoAcknowledge (s : State) : State := if s.autoAck then (send minAck s).2 else s

/-- What every CRC-valid Long frame gets before its handler runs: trace, acknowledge, length check, in that order (R210, R392). -/
def acceptLong (command : Byte) (f : LongFrame) (s : State) : State :=
  warnIf (lengthWarning command f.payload)
    (autoAcknowledge (emit (.frameTrace (longFrameBytes command f) true) s))

/-- The `Dispatch` of a Long frame already taken from the queue (R210): closed transport, trace, CRC check, acknowledge, length check, handler. -/
def receiveLong (command : Byte) (f : LongFrame) (handler : State → Result) (s : State) : Result :=
  if !s.transportOpen then .next (dropClosed s)
  else if crcOk command f s.crcOrder then handler (acceptLong command f s)
  else .next (emit (.frameTrace (longFrameBytes command f) false) s)

/-- The `Dispatch` of a Short frame already taken from the queue (R210, R172). -/
def receiveShort (code : Byte) (handler : State → State) (s : State) : Result :=
  if !s.transportOpen then .next (dropClosed s)
  else .next (handler (emit (.frameTrace (shortFrameBytes code) true) s))

/-- `statusReply` (R215). -/
def statusReply (payload : List Byte) (table : StatusTable) (now : Nat) (s : State) : State :=
  match payload with
  | [code] => applyItem now (.status code table) s
  | p => warn (.badPayloadShape p.length) s

/-- `altFrame` (R219, R220; log entries 5 and 21). -/
def altFrame (command : Byte) (payload : List Byte) (now : Nat) (s : State) : Result :=
  if s.cfg.altDecodeSupplied then
    match altDecode command payload with
    | none => .next (warn (.badPayloadShape payload.length) s)
    | some items => .next (applyItems now items s)
  else .refused (.altFrameLayoutUnknown command)

/-- `busy` (R213): the flag is cleared only when the send succeeded. -/
def busy (s : State) : State :=
  if s.sale.authorizePending then
    let r := issueGeneric s.cfg.codeAuthorize s
    if r.1 then { r.2 with sale := { r.2.sale with authorizePending := false } } else r.2
  else s

end Sys2Proof.Machine
end

