-- ==== Sys2Proof/Machine/Status.lean ====
section
/-! DEFINITION. The status code rows (formats STATUS_BASE and STATUS_EXT): a status byte delivered under one of the two tables is the item `Status(code, table)` applied (R237, R262, R263,
R266; log entry 15). -/

namespace Sys2Proof.Machine

open Sys2Proof

/-- Status code `0x00` under the base table (R262). -/
def execStNotProgrammed (now : Nat) (s : State) : Result := .next (statusItem 0x00#8 .base now s)

/-- Status code `0x01` under the base table (R262). -/
def execStReset (now : Nat) (s : State) : Result := .next (statusItem 0x01#8 .base now s)

/-- Status code `0x02` under the base table (R262). -/
def execStAuthorized (now : Nat) (s : State) : Result := .next (statusItem 0x02#8 .base now s)

/-- Status code `0x04` under the base table (R262). -/
def execStFilling (now : Nat) (s : State) : Result := .next (statusItem 0x04#8 .base now s)

/-- Status code `0x05` under the base table (R262). -/
def execStFillingCompleted (now : Nat) (s : State) : Result := .next (statusItem 0x05#8 .base now s)

/-- Status code `0x06` under the base table (R262). -/
def execStMaxAmountVolume (now : Nat) (s : State) : Result := .next (statusItem 0x06#8 .base now s)

/-- Status code `0x03` under the base table (R263). -/
def execStCode03 (now : Nat) (s : State) : Result := .next (statusItem 0x03#8 .base now s)

/-- A status code outside the base table (R266). -/
def execStUnmapped (now : Nat) (code : Byte) (s : State) : Result := .next (statusItem code .base now s)

/-- Status code `0x00` under the extended table (R262). -/
def execStxNotProgrammed (now : Nat) (s : State) : Result := .next (statusItem 0x00#8 .extended now s)

/-- Status code `0x01` under the extended table (R262). -/
def execStxReset (now : Nat) (s : State) : Result := .next (statusItem 0x01#8 .extended now s)

/-- Status code `0x02` under the extended table (R262). -/
def execStxAuthorized (now : Nat) (s : State) : Result := .next (statusItem 0x02#8 .extended now s)

/-- Status code `0x04` under the extended table (R262). -/
def execStxFilling (now : Nat) (s : State) : Result := .next (statusItem 0x04#8 .extended now s)

/-- Status code `0x05` under the extended table (R262). -/
def execStxFillingCompleted (now : Nat) (s : State) : Result := .next (statusItem 0x05#8 .extended now s)

/-- Status code `0x06` under the extended table (R262). -/
def execStxMaxAmountVolume (now : Nat) (s : State) : Result := .next (statusItem 0x06#8 .extended now s)

/-- Status code `0x07` under the extended table (R262). -/
def execStxSwitchedOff (now : Nat) (s : State) : Result := .next (statusItem 0x07#8 .extended now s)

/-- Status code `0x0B` under the extended table (R262). -/
def execStxSuspended (now : Nat) (s : State) : Result := .next (statusItem 0x0B#8 .extended now s)

/-- Status code `0x03` under the extended table (R263). -/
def execStxCode03 (now : Nat) (s : State) : Result := .next (statusItem 0x03#8 .extended now s)

/-- A status code outside the extended table (R266). -/
def execStxUnmapped (now : Nat) (code : Byte) (s : State) : Result := .next (statusItem code .extended now s)

end Sys2Proof.Machine
end

