-- ==== Sys2Proof/Machine/HostOps.lean ====
section
/-! DEFINITION. The host operations (48_host_operations.md, R350 to R364, and the intent hint R268). -/

namespace Sys2Proof.Machine

open Sys2Proof

/-- `send-generic` (R351). -/
def execHostSendGeneric (code : Byte) (s : State) : Result := .next (issueGeneric code s).2

/-- What a preset that was sent records (R353). -/
def armPreset (volumeCl : Int) (s : State) : State :=
  { s with sale := { s.sale with
      cd3SentThisSale := true
      presetTargetMl := some (10 * presetClamp volumeCl)
      authorizePending := true } }

/-- The send of an admitted preset (R353): it arms only when the frame went out and the tracker is present. -/
def sendPreset (volumeCl : Int) (s : State) : State :=
  let r := send (encodePreset s.deviceAddr volumeCl s.crcOrder) s
  if r.1 && s.cfg.trackerPresent then armPreset volumeCl r.2 else r.2

/-- `send-preset-volume` (R353), in centilitres. -/
def execHostSendPresetVolume (volumeCl : Int) (s : State) : Result :=
  if !gateAdmits s .preset then .next (emit (.commandRefused .noHandshake) s)
  else if s.cfg.trackerPresent && s.sale.cd3SentThisSale then .next (emit (.commandRefused .presetAlreadySent) s)
  else .next (sendPreset volumeCl s)

/-- `send-totals-request` (R354). -/
def execHostSendTotalsRequest (s : State) : Result :=
  if !gateAdmits s .totals then .next (emit (.commandRefused .noHandshake) s)
  else .next (send (encodeTotalsRequest s.deviceAddr s.nozzle s.crcOrder) s).2

/-- `send-min-poll` (R355). -/
def execHostSendMinPoll (s : State) : Result := .next (send minPoll s).2

/-- `send-min-ack` (R356). -/
def execHostSendMinAck (s : State) : Result := .next (send minAck s).2

/-- `set-crc-order` (R357). -/
def execHostSetCrcOrder (order : CrcOrder) (s : State) : Result := .next { s with crcOrder := order }

/-- `set-auto-ack` (R358). -/
def execHostSetAutoAck (b : Bool) (s : State) : Result := .next { s with autoAck := b }

/-- `set-auto-poll` (R359). -/
def execHostSetAutoPoll (b : Bool) (intervalMs : Nat) (s : State) : Result :=
  .next { s with autoPoll := b, pollIntervalMs := intervalMs }

/-- `transport-open` (R360). -/
def execHostTransportOpen (addr : Byte) (s : State) : Result :=
  .next { s with transportOpen := true, txFaulted := false, deviceAddr := addr }

/-- `transport-close` (R361). -/
def execHostTransportClose (s : State) : Result := .next { s with transportOpen := false }

/-- `intent-hint` (R268): ignored, without an event, before the handshake. -/
def execHostIntentHint (state : PumpState) (s : State) : Result :=
  if s.hs.ok then .next (emit (.statusHint state) { s with hintState := some state }) else .next s

/-- The meaning of the operation a `Host` step carries (R350). -/
def runHostOp (op : HostOp) (s : State) : Result :=
  match op with
  | .sendGeneric code => execHostSendGeneric code s
  | .sendPresetVolume volumeCl => execHostSendPresetVolume volumeCl s
  | .sendTotalsRequest => execHostSendTotalsRequest s
  | .sendMinPoll => execHostSendMinPoll s
  | .sendMinAck => execHostSendMinAck s
  | .setCrcOrder order => execHostSetCrcOrder order s
  | .setAutoAck b => execHostSetAutoAck b s
  | .setAutoPoll b intervalMs => execHostSetAutoPoll b intervalMs s
  | .transportOpen addr => execHostTransportOpen addr s
  | .transportClose => execHostTransportClose s
  | .intentHint state => execHostIntentHint state s

end Sys2Proof.Machine
end

