-- ==== Sys2Proof/Machine/SubRecords.lean ====
section
/-! DEFINITION. The sub-record rows (format SUBREC, R231 to R235) and the walk over a composite payload (R225). -/

namespace Sys2Proof.Machine

open Sys2Proof

/-- Status, `trans = 0x01` (R231). -/
def recordStatus (now : Nat) (data : List Byte) (s : State) : State :=
  match data with
  | [code] => applyItem now (.status code s.cfg.subrecStatusTable) s
  | d => warn (.badSubRecordShape 0x01#8 d.length) s

/-- FilledVolumeAmount, `trans = 0x02` (R232). -/
def recordVolume (now : Nat) (data : List Byte) (s : State) : State :=
  if data.length = 8 then applyItem now (volumeItem data) s
  else warn (.badSubRecordShape 0x02#8 data.length) s

/-- NozzlePrice, `trans = 0x03`, outer command not `0x65` (R233). -/
def recordNozzlePrice (now : Nat) (data : List Byte) (s : State) : State :=
  if data.length = 4 then applyItem now (nozzlePriceItem s.cfg data) s
  else warn (.badSubRecordShape 0x03#8 data.length) s

/-- Totals, `trans = 0x03`, outer command `0x65` (R234). -/
def recordTotals (now : Nat) (data : List Byte) (s : State) : State :=
  if data.length = 16 then applyItem now (totalsItem data) s
  else warn (.badSubRecordShape 0x03#8 data.length) s

/-- UnknownTrans (R235): the data are skipped. -/
def recordUnknown (t : Byte) (s : State) : State := warn (.unknownTrans t) s

/-- `record` (R225, R90): one record under an outer command that is `0x65` or not. -/
def applyRecord (totals : Bool) (now : Nat) (r : SubRecord) (s : State) : State :=
  if r.trans = 0x01#8 then recordStatus now r.data s
  else if r.trans = 0x02#8 then recordVolume now r.data s
  else if r.trans = 0x03#8 then
    if totals then recordTotals now r.data s else recordNozzlePrice now r.data s
  else recordUnknown r.trans s

/-- Records in payload order. -/
def applyRecords (totals : Bool) (now : Nat) (records : List SubRecord) (s : State) : State :=
  records.foldl (fun s r => applyRecord totals now r s) s

/-- The sub-record walk (R225): every whole record in order, then the one diagnostic if the payload is malformed. -/
def walk (totals : Bool) (now : Nat) (payload : List Byte) (s : State) : State :=
  let r := splitRecords payload
  warnIf (r.2.map .subRecordTruncated) (applyRecords totals now r.1 s)

/-- The row `sub.status`. -/
def execSubStatus (now : Nat) (data : List Byte) (s : State) : Result := .next (recordStatus now data s)

/-- The row `sub.filled_volume_amount`; a volume item does not read the timestamp (R237). -/
def execSubFilledVolumeAmount (data : List Byte) (s : State) : Result := .next (recordVolume 0 data s)

/-- The row `sub.nozzle_price`. -/
def execSubNozzlePrice (data : List Byte) (s : State) : Result := .next (recordNozzlePrice 0 data s)

/-- The row `sub.totals`. -/
def execSubTotals (data : List Byte) (s : State) : Result := .next (recordTotals 0 data s)

/-- The row `sub.unknown_trans`. -/
def execSubUnknownTrans (t : Byte) (s : State) : Result := .next (recordUnknown t s)

end Sys2Proof.Machine
end

