-- ==== Sys2Proof/Machine/RxLong.lean ====
section
/-! DEFINITION. The inbound Long frames (format RX_LONG): what `Dispatch` does with each kind (R210 to R224). The frame has already been taken from the queue (log entry 14). -/

namespace Sys2Proof.Machine

open Sys2Proof

/-- DirectStatus `0x01` (R217): the extended table. -/
def execRxDirectStatus (now : Nat) (f : LongFrame) (s : State) : Result :=
  receiveLong 0x01#8 f (fun s => .next (statusReply f.payload .extended now s)) s

/-- StatusReply `0x30` (R215): the base table. -/
def execRxStatusReply (now : Nat) (f : LongFrame) (s : State) : Result :=
  receiveLong 0x30#8 f (fun s => .next (statusReply f.payload .base now s)) s

/-- StatusReply `0xCD` (R216): the base table. -/
def execRxStatusReplyCd (now : Nat) (f : LongFrame) (s : State) : Result :=
  receiveLong 0xCD#8 f (fun s => .next (statusReply f.payload .base now s)) s

/-- Composite `0x31` (R223). -/
def execRxComposite31 (now : Nat) (f : LongFrame) (s : State) : Result :=
  receiveLong 0x31#8 f (fun s => .next (walk false now f.payload s)) s

/-- Composite `0x32` (R223). -/
def execRxComposite32 (now : Nat) (f : LongFrame) (s : State) : Result :=
  receiveLong 0x32#8 f (fun s => .next (walk false now f.payload s)) s

/-- Composite `0x33` (R223). -/
def execRxComposite33 (now : Nat) (f : LongFrame) (s : State) : Result :=
  receiveLong 0x33#8 f (fun s => .next (walk false now f.payload s)) s

/-- Composite `0x34` (R223). -/
def execRxComposite34 (now : Nat) (f : LongFrame) (s : State) : Result :=
  receiveLong 0x34#8 f (fun s => .next (walk false now f.payload s)) s

/-- Composite `0x35` (R223). -/
def execRxComposite35 (now : Nat) (f : LongFrame) (s : State) : Result :=
  receiveLong 0x35#8 f (fun s => .next (walk false now f.payload s)) s

/-- Composite `0x36` (R223). -/
def execRxComposite36 (now : Nat) (f : LongFrame) (s : State) : Result :=
  receiveLong 0x36#8 f (fun s => .next (walk false now f.payload s)) s

/-- Composite `0x37` (R223). -/
def execRxComposite37 (now : Nat) (f : LongFrame) (s : State) : Result :=
  receiveLong 0x37#8 f (fun s => .next (walk false now f.payload s)) s

/-- Composite `0x38` (R223). -/
def execRxComposite38 (now : Nat) (f : LongFrame) (s : State) : Result :=
  receiveLong 0x38#8 f (fun s => .next (walk false now f.payload s)) s

/-- Composite `0x39` (R223). -/
def execRxComposite39 (now : Nat) (f : LongFrame) (s : State) : Result :=
  receiveLong 0x39#8 f (fun s => .next (walk false now f.payload s)) s

/-- Composite `0x3A` (R223). -/
def execRxComposite3a (now : Nat) (f : LongFrame) (s : State) : Result :=
  receiveLong 0x3A#8 f (fun s => .next (walk false now f.payload s)) s

/-- Composite `0x3B` (R223). -/
def execRxComposite3b (now : Nat) (f : LongFrame) (s : State) : Result :=
  receiveLong 0x3B#8 f (fun s => .next (walk false now f.payload s)) s

/-- Composite `0x3C` (R223). -/
def execRxComposite3c (now : Nat) (f : LongFrame) (s : State) : Result :=
  receiveLong 0x3C#8 f (fun s => .next (walk false now f.payload s)) s

/-- Composite `0x3D` (R223). -/
def execRxComposite3d (now : Nat) (f : LongFrame) (s : State) : Result :=
  receiveLong 0x3D#8 f (fun s => .next (walk false now f.payload s)) s

/-- Composite `0x3E` (R223). -/
def execRxComposite3e (now : Nat) (f : LongFrame) (s : State) : Result :=
  receiveLong 0x3E#8 f (fun s => .next (walk false now f.payload s)) s

/-- Composite `0x3F` (R223). -/
def execRxComposite3f (now : Nat) (f : LongFrame) (s : State) : Result :=
  receiveLong 0x3F#8 f (fun s => .next (walk false now f.payload s)) s

/-- CompositeTotals `0x65` (R224). -/
def execRxCompositeTotals (now : Nat) (f : LongFrame) (s : State) : Result :=
  receiveLong 0x65#8 f (fun s => .next (walk true now f.payload s)) s

/-- AltStatus `0xD1` (R219, R220). -/
def execRxAltStatus (now : Nat) (f : LongFrame) (s : State) : Result :=
  receiveLong 0xD1#8 f (altFrame 0xD1#8 f.payload now) s

/-- AltVolume `0xD2` (R219, R220). -/
def execRxAltVolume (now : Nat) (f : LongFrame) (s : State) : Result :=
  receiveLong 0xD2#8 f (altFrame 0xD2#8 f.payload now) s

/-- AltTotals `0xD3` (R219, R220). -/
def execRxAltTotals (now : Nat) (f : LongFrame) (s : State) : Result :=
  receiveLong 0xD3#8 f (altFrame 0xD3#8 f.payload now) s

/-- AltNozzle `0xD4` (R219, R220). -/
def execRxAltNozzle (now : Nat) (f : LongFrame) (s : State) : Result :=
  receiveLong 0xD4#8 f (altFrame 0xD4#8 f.payload now) s

/-- Any other command byte (R221). -/
def execRxUnknownCommand (command : Byte) (f : LongFrame) (s : State) : Result :=
  receiveLong command f (fun s => .next (warn (.unknownCommand command) s)) s

end Sys2Proof.Machine
end

