-- ==== Sys2Proof/Machine/RxShort.lean ====
section
/-! DEFINITION. The inbound Short frames (format RX_SHORT, R212 to R214), already taken from the queue (log entry 14). -/

namespace Sys2Proof.Machine

open Sys2Proof

/-- PollEcho `50 20 FA` (R212). -/
def execRxPollEcho (s : State) : Result := receiveShort 0x20#8 (fun s => s) s

/-- AckEcho `50 C0 FA` (R212). -/
def execRxAckEcho (s : State) : Result := receiveShort 0xC0#8 (fun s => s) s

/-- Busy `50 70 FA` (R213). -/
def execRxBusy (s : State) : Result := receiveShort 0x70#8 busy s

/-- Any other code (R214). -/
def execRxUnknownShort (code : Byte) (s : State) : Result :=
  receiveShort code (warn (.unknownShortCode code)) s

end Sys2Proof.Machine
end

