-- ==== Sys2Proof/Machine/Steps.lean ====
section
/-! DEFINITION. The steps of the transition system (format STEP, R7): RxByte, Dispatch, TimerFire, Host, TransportFault, SessionReset. -/

namespace Sys2Proof.Machine

open Sys2Proof

/-- Run a decoded inbound frame (R210: "the command byte selects one handler"). The last arm is never reached: a queue entry decodes to an inbound frame (log entry 10). -/
def runFrame (i : Instr) (s : State) : Result :=
  match i with
  | .rxDirectStatus now f => execRxDirectStatus now f s
  | .rxStatusReply now f => execRxStatusReply now f s
  | .rxComposite31 now f => execRxComposite31 now f s
  | .rxComposite32 now f => execRxComposite32 now f s
  | .rxComposite33 now f => execRxComposite33 now f s
  | .rxComposite34 now f => execRxComposite34 now f s
  | .rxComposite35 now f => execRxComposite35 now f s
  | .rxComposite36 now f => execRxComposite36 now f s
  | .rxComposite37 now f => execRxComposite37 now f s
  | .rxComposite38 now f => execRxComposite38 now f s
  | .rxComposite39 now f => execRxComposite39 now f s
  | .rxComposite3a now f => execRxComposite3a now f s
  | .rxComposite3b now f => execRxComposite3b now f s
  | .rxComposite3c now f => execRxComposite3c now f s
  | .rxComposite3d now f => execRxComposite3d now f s
  | .rxComposite3e now f => execRxComposite3e now f s
  | .rxComposite3f now f => execRxComposite3f now f s
  | .rxCompositeTotals now f => execRxCompositeTotals now f s
  | .rxStatusReplyCd now f => execRxStatusReplyCd now f s
  | .rxAltStatus now f => execRxAltStatus now f s
  | .rxAltVolume now f => execRxAltVolume now f s
  | .rxAltTotals now f => execRxAltTotals now f s
  | .rxAltNozzle now f => execRxAltNozzle now f s
  | .rxUnknownCommand command f => execRxUnknownCommand command f s
  | .rxPollEcho => execRxPollEcho s
  | .rxAckEcho => execRxAckEcho s
  | .rxBusy => execRxBusy s
  | .rxUnknownShort code => execRxUnknownShort code s
  | _ => .fault .notAFrame

/-- A frame just popped (R210): decode it and run it. A closed transport drops it unread (R211). -/
def dispatchFrame (now : Nat) (q : Frame) (s : State) : Result :=
  if !s.transportOpen then .next (dropClosed s)
  else
    match decodeFrame now q.shape q.bytes with
    | .ok i => runFrame i s
    | .error why => .fault (.malformedFrame why)

/-- `RxByte(b)` (R164). -/
def execStepRxByte (b : Byte) (s : State) : Result := receiveByte b s

/-- `Dispatch(now)` (R210). On an empty queue it is not enabled: a "non-blocking poll" that changes nothing (R62; log entry 8, DEDUCED). -/
def execStepDispatch (now : Nat) (s : State) : Result :=
  match s.frameQ with
  | [] => .next s
  | q :: rest => dispatchFrame now q { s with frameQ := rest }

/-- `TimerFire` (R293); offered while not enabled it is a no-op. -/
def execStepTimerFire (s : State) : Result :=
  if timerEnabled s then .next (send minPoll s).2 else .next s

/-- `Host(op)` (R350). -/
def execStepHost (op : HostOp) (s : State) : Result := runHostOp op s

/-- `TransportFault` (R386). -/
def execStepTransportFault (s : State) : Result := .next (emit .transportFault { s with txFaulted := true })

/-- The parameters of the session that begins: the storage collaborator's `load()` may answer anew (R420; log entry 11, DEDUCED). -/
def reloaded (load : Option Counters) (p : Config.Params) : Config.Params :=
  match load with
  | none => p
  | some c => { p with load := c }

/-- `SessionReset` (R420). -/
def execStepSessionReset (load : Option Counters) (s : State) : Result :=
  .next (State.session (reloaded load s.cfg) s.script)

end Sys2Proof.Machine
end

