-- ==== Sys2Proof/Machine/TxFrames.lean ====
section
/-! DEFINITION. The outbound frames (formats TX_LONG and TX_SHORT): a frame is built (R193 to R196) under the CRC byte order in force and given to `send` (R199). The gate is its callers'
(R193: "the builder does not know the gate"; log entry 15). -/

namespace Sys2Proof.Machine

open Sys2Proof

/-- The preset-volume frame (R194). -/
def execTxPresetVolume (addr : Byte) (volumeCl : Int) (s : State) : Result :=
  .next (send (encodePreset addr volumeCl s.crcOrder) s).2

/-- The generic command frame (R193). -/
def execTxGeneric (addr nozzle code : Byte) (s : State) : Result :=
  .next (send (encodeGeneric addr nozzle code s.crcOrder) s).2

/-- The totals-request frame (R195). -/
def execTxTotalsRequest (addr nozzle : Byte) (s : State) : Result :=
  .next (send (encodeTotalsRequest addr nozzle s.crcOrder) s).2

/-- The minimal poll (R196). -/
def execTxMinPoll (s : State) : Result := .next (send minPoll s).2

/-- The minimal ack (R196). -/
def execTxMinAck (s : State) : Result := .next (send minAck s).2

end Sys2Proof.Machine
end

