-- ==== Sys2Proof/Machine/Dispatch.lean ====
section
/-! DEFINITION. The dispatch: one arm per constructor of Instr, each one call of its meaning. -/

namespace Sys2Proof.Machine

open Sys2Proof

def exec (i : Instr) (s : State) : Host.Outcome State Fault Refusal :=
  match i with
  | .rxDirectStatus now f => Sys2Proof.Machine.execRxDirectStatus now f s
  | .rxStatusReply now f => Sys2Proof.Machine.execRxStatusReply now f s
  | .rxComposite31 now f => Sys2Proof.Machine.execRxComposite31 now f s
  | .rxComposite32 now f => Sys2Proof.Machine.execRxComposite32 now f s
  | .rxComposite33 now f => Sys2Proof.Machine.execRxComposite33 now f s
  | .rxComposite34 now f => Sys2Proof.Machine.execRxComposite34 now f s
  | .rxComposite35 now f => Sys2Proof.Machine.execRxComposite35 now f s
  | .rxComposite36 now f => Sys2Proof.Machine.execRxComposite36 now f s
  | .rxComposite37 now f => Sys2Proof.Machine.execRxComposite37 now f s
  | .rxComposite38 now f => Sys2Proof.Machine.execRxComposite38 now f s
  | .rxComposite39 now f => Sys2Proof.Machine.execRxComposite39 now f s
  | .rxComposite3a now f => Sys2Proof.Machine.execRxComposite3a now f s
  | .rxComposite3b now f => Sys2Proof.Machine.execRxComposite3b now f s
  | .rxComposite3c now f => Sys2Proof.Machine.execRxComposite3c now f s
  | .rxComposite3d now f => Sys2Proof.Machine.execRxComposite3d now f s
  | .rxComposite3e now f => Sys2Proof.Machine.execRxComposite3e now f s
  | .rxComposite3f now f => Sys2Proof.Machine.execRxComposite3f now f s
  | .rxCompositeTotals now f => Sys2Proof.Machine.execRxCompositeTotals now f s
  | .rxStatusReplyCd now f => Sys2Proof.Machine.execRxStatusReplyCd now f s
  | .rxAltStatus now f => Sys2Proof.Machine.execRxAltStatus now f s
  | .rxAltVolume now f => Sys2Proof.Machine.execRxAltVolume now f s
  | .rxAltTotals now f => Sys2Proof.Machine.execRxAltTotals now f s
  | .rxAltNozzle now f => Sys2Proof.Machine.execRxAltNozzle now f s
  | .rxUnknownCommand command f => Sys2Proof.Machine.execRxUnknownCommand command f s
  | .rxPollEcho => Sys2Proof.Machine.execRxPollEcho s
  | .rxAckEcho => Sys2Proof.Machine.execRxAckEcho s
  | .rxBusy => Sys2Proof.Machine.execRxBusy s
  | .rxUnknownShort code => Sys2Proof.Machine.execRxUnknownShort code s
  | .subStatus now _ data => Sys2Proof.Machine.execSubStatus now data s
  | .subFilledVolumeAmount _ data => Sys2Proof.Machine.execSubFilledVolumeAmount data s
  | .subNozzlePrice data => Sys2Proof.Machine.execSubNozzlePrice data s
  | .subTotals data => Sys2Proof.Machine.execSubTotals data s
  | .subUnknownTrans _ t _ => Sys2Proof.Machine.execSubUnknownTrans t s
  | .stNotProgrammed now => Sys2Proof.Machine.execStNotProgrammed now s
  | .stReset now => Sys2Proof.Machine.execStReset now s
  | .stAuthorized now => Sys2Proof.Machine.execStAuthorized now s
  | .stFilling now => Sys2Proof.Machine.execStFilling now s
  | .stFillingCompleted now => Sys2Proof.Machine.execStFillingCompleted now s
  | .stMaxAmountVolume now => Sys2Proof.Machine.execStMaxAmountVolume now s
  | .stCode03 now => Sys2Proof.Machine.execStCode03 now s
  | .stUnmapped now code => Sys2Proof.Machine.execStUnmapped now code s
  | .stxNotProgrammed now => Sys2Proof.Machine.execStxNotProgrammed now s
  | .stxReset now => Sys2Proof.Machine.execStxReset now s
  | .stxAuthorized now => Sys2Proof.Machine.execStxAuthorized now s
  | .stxFilling now => Sys2Proof.Machine.execStxFilling now s
  | .stxFillingCompleted now => Sys2Proof.Machine.execStxFillingCompleted now s
  | .stxMaxAmountVolume now => Sys2Proof.Machine.execStxMaxAmountVolume now s
  | .stxSwitchedOff now => Sys2Proof.Machine.execStxSwitchedOff now s
  | .stxSuspended now => Sys2Proof.Machine.execStxSuspended now s
  | .stxCode03 now => Sys2Proof.Machine.execStxCode03 now s
  | .stxUnmapped now code => Sys2Proof.Machine.execStxUnmapped now code s
  | .txPresetVolume addr volumeCl => Sys2Proof.Machine.execTxPresetVolume addr volumeCl s
  | .txGeneric addr nozzle code => Sys2Proof.Machine.execTxGeneric addr nozzle code s
  | .txTotalsRequest addr nozzle => Sys2Proof.Machine.execTxTotalsRequest addr nozzle s
  | .txMinPoll => Sys2Proof.Machine.execTxMinPoll s
  | .txMinAck => Sys2Proof.Machine.execTxMinAck s
  | .hostSendGeneric code => Sys2Proof.Machine.execHostSendGeneric code s
  | .hostSendPresetVolume volumeCl => Sys2Proof.Machine.execHostSendPresetVolume volumeCl s
  | .hostSendTotalsRequest => Sys2Proof.Machine.execHostSendTotalsRequest s
  | .hostSendMinPoll => Sys2Proof.Machine.execHostSendMinPoll s
  | .hostSendMinAck => Sys2Proof.Machine.execHostSendMinAck s
  | .hostSetCrcOrder order => Sys2Proof.Machine.execHostSetCrcOrder order s
  | .hostSetAutoAck b => Sys2Proof.Machine.execHostSetAutoAck b s
  | .hostSetAutoPoll b intervalMs => Sys2Proof.Machine.execHostSetAutoPoll b intervalMs s
  | .hostTransportOpen addr => Sys2Proof.Machine.execHostTransportOpen addr s
  | .hostTransportClose => Sys2Proof.Machine.execHostTransportClose s
  | .hostIntentHint state => Sys2Proof.Machine.execHostIntentHint state s
  | .stepRxByte b => Sys2Proof.Machine.execStepRxByte b s
  | .stepDispatch now => Sys2Proof.Machine.execStepDispatch now s
  | .stepTimerFire => Sys2Proof.Machine.execStepTimerFire s
  | .stepHost op => Sys2Proof.Machine.execStepHost op s
  | .stepTransportFault => Sys2Proof.Machine.execStepTransportFault s
  | .stepSessionReset load => Sys2Proof.Machine.execStepSessionReset load s

end Sys2Proof.Machine
end

