-- ==== Sys2Proof/Machine/Fetch.lean ====
section
/-! DEFINITION. Where the next step comes from: the head of `script` (log entry 1), and how a table number's word is put there (log entry 17). -/

namespace Sys2Proof.Machine

open Sys2Proof

/-- Put a line in front of the environment's pending steps. -/
def pushLine (line : List Nat) (s : State) : State := { s with script := line :: s.script }

/-- Put a frame at the head of `frameQ` and a `Dispatch` in front of the pending steps, so that the next step decodes that frame. -/
def pushFrame (shape : Shape) (bytes : List Byte) (s : State) : State :=
  pushLine [1, 0] { s with frameQ := ⟨shape, bytes⟩ :: s.frameQ }

/-- Make the next step the one that sends an outbound frame: the host operation that builds it, with the address, the nozzle number and the handshake it takes. -/
def pushOutbound (i : Instr) (s : State) : State :=
  match i with
  | .txGeneric addr nozzle code =>
    pushLine [3, 0, code.toNat] { s with deviceAddr := addr, nozzle := nozzle }
  | .txPresetVolume addr volumeCl =>
    pushLine (3 :: 1 :: ofInt volumeCl) { s with deviceAddr := addr, hs := { s.hs with ok := true, everOk := true } }
  | .txTotalsRequest addr nozzle => pushLine [3, 2] { s with deviceAddr := addr, nozzle := nozzle }
  | .txMinPoll => pushLine [3, 3] s
  | .txMinAck => pushLine [3, 4] s
  | _ => s

/-- Put an encoded instruction where the next step runs it. A step is a line of the script, an operation the operand of a `Host` line, a frame the head of the queue; a sub-record is the
payload of a composite frame and a status code that of a status frame, both closed with their CRC. -/
def placeCode (c : DecodeContext) (code : Code) (s : State) : State :=
  match code with
  | .step words => pushLine words s
  | .host words => pushLine (3 :: words) s
  | .rxLong bytes => pushFrame .long bytes s
  | .rxShort bytes => pushFrame .short bytes s
  | .subRec bytes =>
    pushFrame .long (longClose ([0x00#8, if c.totals then 0x65#8 else 0x31#8] ++ bytes) s.crcOrder) s
  | .statusBase b => pushFrame .long (longClose [0x00#8, 0x30#8, b] s.crcOrder) s
  | .statusExt b => pushFrame .long (longClose [0x00#8, 0x01#8, b] s.crcOrder) s
  | .txLong bytes =>
    match decodeTxLong c.order bytes with
    | .ok i => pushOutbound i s
    | .error _ => s
  | .txShort bytes =>
    match decodeTxShort bytes with
    | .ok i => pushOutbound i s
    | .error _ => s

end Sys2Proof.Machine
end

