-- ==== Sys2Proof/Machine/Step.lean ====
section
/-! DEFINITION. One step of the machine: the environment's next pending step, decoded and executed. -/

namespace Sys2Proof.Machine

open Sys2Proof

/-- One step (R7): the first line of `script` is taken, decoded (R97) and executed. Without a line the block waits and nothing changes (R421, R405; log entry 2). -/
def step (s : State) : Host.Outcome State Fault Refusal :=
  match s.script with
  | [] => .next s
  | line :: rest =>
    match decodeStep line with
    | .ok i => exec i { s with script := rest }
    | .error why => .refused (.badScriptLine why)

/-- `s` with the instruction of a table number placed where the next step runs it (log entry 17). -/
def State.withFetchWord (s : State) (nbits w : Nat) : State :=
  match tableCode nbits w with
  | none => s
  | some cc => placeCode cc.1 cc.2 s

end Sys2Proof.Machine
end

