-- ==== Sys2Proof/Safety.lean ====
section
/-! DEFINITION. The terms the claims use: the invariants of R53 and R200, the source's whole-buffer scan (R166), the walk by a cursor (R225), the parts of a state that no rule
reads (R32, R42), the frames that may leave before the handshake (R283). Nothing here is part of the machine. -/

namespace Sys2Proof.Machine

open Sys2Proof

/-! ## Capacities -/

/-- The receive path as R5 sets it by default: no capacity is finite and `ETX_ADJACENT` holds. -/
def unbounded (s : State) : Prop :=
  s.cfg.rxCap = none ∧ s.cfg.queueCap = none ∧ s.cfg.etxAdjacent = true

/-! ## Frames and buffers -/

/-- The candidate at position `t` of a buffer is a complete frame (R161, R166): `t` is a trailer position and the prefix ending there has a shape. -/
def completeAt (buf : List Byte) (t : Nat) : Bool :=
  buf[t]? == some Config.trailer && (hasLongShape (buf.take (t + 1)) || hasShortShape (buf.take (t + 1)))

/-- A buffer that holds no complete frame (R53 (b)). -/
def noFrameIn (buf : List Byte) : Bool :=
  (List.range buf.length).all fun t => !completeAt buf t

/-- A queue element of the form R53 (c) gives it. -/
def frameWf (q : Frame) : Bool :=
  match q.shape with
  | .long =>
    decide (7 ≤ q.bytes.length) && q.bytes[q.bytes.length - 1]? == some 0xFA#8 && q.bytes[q.bytes.length - 2]? == some 0x03#8
  | .short => q.bytes.length == 3 && q.bytes[0]? == some 0x50#8 && q.bytes[2]? == some 0xFA#8

/-- The first position of a buffer, in increasing order, whose candidate is a complete frame, with its shape and the length of the prefix it consumes (R160). -/
def firstFrame (buf : List Byte) : Option (Shape × Nat) :=
  (List.range buf.length).findSome? fun t =>
    if buf[t]? == some Config.trailer then
      if hasLongShape (buf.take (t + 1)) then some (.long, t + 1)
      else if hasShortShape (buf.take (t + 1)) then some (.short, t + 1)
      else none
    else none

/-- The source's scan of a whole buffer (R160, R166): emit the first frame, drop the consumed prefix, go on with the remainder. The first argument bounds the number of frames. -/
def scanUpTo : Nat → List Byte → List Frame × List Byte
  | 0, buf => ([], buf)
  | n + 1, buf =>
    match firstFrame buf with
    | none => ([], buf)
    | some (shape, k) =>
      let r := scanUpTo n (buf.drop k)
      (⟨shape, buf.take k⟩ :: r.1, r.2)

/-- The scan of a buffer; every frame takes at least one byte. -/
def scanBuffer (buf : List Byte) : List Frame × List Byte := scanUpTo buf.length buf

/-- The scan applied after each chunk that the transport delivers (R72, R166). -/
def scanChunks (rem : List Byte) : List (List Byte) → List Frame × List Byte
  | [] => ([], rem)
  | chunk :: rest =>
    let r := scanBuffer (rem ++ chunk)
    let r' := scanChunks r.2 rest
    (r.1 ++ r'.1, r'.2)

/-- A run of `RxByte` steps, one per byte (R60, R72), up to the first stop. -/
def feed : List Byte → State → Result
  | [], s => .next s
  | b :: bs, s =>
    match exec (.stepRxByte b) s with
    | .next t => feed bs t
    | .fault r => .fault r
    | .refused r => .refused r

/-- The chunks that a transport delivers, each fed by `RxByte` steps before the next, up to the first stop (R72). -/
def feedChunks : List (List Byte) → State → Result
  | [], s => .next s
  | chunk :: rest, s =>
    match feed chunk s with
    | .next t => feedChunks rest t
    | .fault r => .fault r
    | .refused r => .refused r

/-! ## The walk by a cursor -/

/-- The loop of R225, with its cursor `pos` into the payload `p`; the first argument bounds the number of turns. -/
def walkCursor (totals : Bool) (now : Nat) (p : List Byte) : Nat → Nat → State → State
  | 0, _, s => s
  | n + 1, pos, s =>
    if p.length ≤ pos then s
    else if p.length < pos + 2 then warn (.subRecordTruncated pos) s
    else if p.length < pos + 2 + (p.getD (pos + 1) 0).toNat then warn (.subRecordTruncated pos) s
    else
      walkCursor totals now p n (pos + 2 + (p.getD (pos + 1) 0).toNat)
        (applyRecord totals now ⟨p.getD pos 0, (p.drop (pos + 2)).take (p.getD (pos + 1) 0).toNat⟩ s)

/-! ## BCD -/

/-- A byte with every invalid nibble replaced by 0 (R147 (b)). -/
def bcdClean (b : Byte) : Byte := packDigits (bcdDigit (highNibble b)) (bcdDigit (lowNibble b))

/-! ## Invariants -/

/-- The invariant of every reachable state (R53, R322 (f)): `everOk = ok`; no complete frame in `rxBuf`; queue elements of their form; a pending AUTHORIZE or an armed preset only
after the handshake; without the tracker, its fields at their reset values; an active window only in `Authorized`, `Filling` or `Suspended`, and not yet counted. -/
structure Inv (s : State) : Prop where
  everOk_eq : s.hs.everOk = s.hs.ok
  buffer : noFrameIn s.rxBuf = true
  queue : ∀ q ∈ s.frameQ, frameWf q = true
  pending : s.sale.authorizePending = true → s.hs.ok = true
  armed : s.sale.presetTargetMl ≠ none → s.hs.ok = true
  noTracker : s.cfg.trackerPresent = false → s.sale = Sale.initial ∧ s.counters = s.cfg.load
  window : s.sale.active = true → s.pumpState = .authorized ∨ s.pumpState = .filling ∨ s.pumpState = .suspended
  uncounted : s.sale.active = true → s.sale.countersBumped = false

/-- One of the frames the block builds (R200). -/
def outboundFrame (bytes : List Byte) : Prop :=
  bytes = minPoll ∨ bytes = minAck ∨
    (∃ addr nozzle code order, bytes = encodeGeneric addr nozzle code order) ∨
    (∃ addr volumeCl order, bytes = encodePreset addr volumeCl order) ∨
    (∃ addr nozzle order, bytes = encodeTotalsRequest addr nozzle order)

/-- A frame that may leave before the handshake (R283, R400): a poll, an ack, a read query, or a totals request where that counts as one. -/
def allowedBeforeHandshake (s : State) (bytes : List Byte) : Prop :=
  bytes = minPoll ∨ bytes = minAck ∨
    (∃ code ∈ s.cfg.readQueryCodes, bytes = encodeGeneric s.deviceAddr s.nozzle code s.crcOrder) ∨
    (s.cfg.totalsIsReadQuery = true ∧ bytes = encodeTotalsRequest s.deviceAddr s.nozzle s.crcOrder)

/-- How many `counters-save` events a stream holds (R322). -/
def savesIn (evt : List Event) : Nat :=
  (evt.filter fun e => match e with
    | .countersSave _ _ => true
    | _ => false).length

/-- How many `handshake-acquired` events a stream holds (R281 (a)). -/
def handshakesIn (evt : List Event) : Nat :=
  (evt.filter fun e => match e with
    | .handshakeAcquired => true
    | _ => false).length

/-- The counters are the loaded ones plus the saves since reset (R322 (b)). -/
def CountersMatchSaves (s : State) : Prop :=
  s.counters.vehicleCount = s.cfg.load.vehicleCount + savesIn s.evt

/-! ## Instructions that carry no status -/

/-- The instructions R267 names as never changing `pumpState`: Short frames, outbound frames, host operations, and every step but `Dispatch` and `SessionReset`. -/
def carriesNoStatus : Instr → Bool
  | .rxPollEcho => true
  | .rxAckEcho => true
  | .rxBusy => true
  | .rxUnknownShort _ => true
  | .rxUnknownCommand _ _ => true
  | .subFilledVolumeAmount _ _ => true
  | .subNozzlePrice _ => true
  | .subTotals _ => true
  | .subUnknownTrans _ _ _ => true
  | .txPresetVolume _ _ => true
  | .txGeneric _ _ _ => true
  | .txTotalsRequest _ _ => true
  | .txMinPoll => true
  | .txMinAck => true
  | .hostSendGeneric _ => true
  | .hostSendPresetVolume _ => true
  | .hostSendTotalsRequest => true
  | .hostSendMinPoll => true
  | .hostSendMinAck => true
  | .hostSetCrcOrder _ => true
  | .hostSetAutoAck _ => true
  | .hostSetAutoPoll _ _ => true
  | .hostTransportOpen _ => true
  | .hostTransportClose => true
  | .hostIntentHint _ => true
  | .stepRxByte _ => true
  | .stepTimerFire => true
  | .stepHost _ => true
  | .stepTransportFault => true
  | _ => false

/-! ## The step to come -/

/-- The instruction that the next step runs (R7): the first pending line, decoded (R97; log entry 1). -/
def pendingIs (s : State) (i : Instr) : Prop :=
  ∃ (line : List Nat) (rest : List (List Nat)), s.script = line :: rest ∧ decodeStep line = .ok i

/-! ## What no rule reads -/

/-- Two states that differ at most in the period of the timer and in the handshake's timestamp, which no rule reads (R32, R42, R440). -/
def sameButTime (s t : State) : Prop :=
  t = { s with pollIntervalMs := t.pollIntervalMs, hs := { s.hs with lastOkTimestamp := t.hs.lastOkTimestamp } }

/-- Two outcomes that differ at most in what no rule reads. -/
def sameOutcomeButTime : Result → Result → Prop
  | .next s, .next t => sameButTime s t
  | .fault r, .fault r' => r = r'
  | .refused r, .refused r' => r = r'
  | _, _ => False

end Sys2Proof.Machine
end

