-- ==== Sys2Proof/Certificates/Slice0/Obligations.lean ====
section
/-! DEFINITION. The statements for the provers. Each docstring names the rules it formalises; "decided by the spec, D<n>" marks a point that the spec itself calls its decision, "log entry <n>" one that this
model chose. The rows of spec/opcode_table.json are stated with their whole next state, so that what a row leaves unchanged is part of the equation. -/

open Sys2Proof Sys2Proof.Machine

/-! ## CRC16 engine (40_crc16.md) -/

/-- R121: one bit-shift, as pseudocode, bit by bit, and in the rule's corner cases. -/
def Obligations.CrcBitShiftFeedsBackLowBit : Prop :=
  (∀ acc : Word16,
    crcBit acc = (if acc.getLsbD 0 then (acc >>> 1) ^^^ 0xA001#16 else acc >>> 1) ∧
    (crcBit acc).getLsbD 15 = acc.getLsbD 0 ∧
    (crcBit acc).getLsbD 14 = acc.getLsbD 15 ∧
    (crcBit acc).getLsbD 13 = (acc.getLsbD 14 ^^ acc.getLsbD 0) ∧
    (∀ k, 1 ≤ k → k ≤ 12 → (crcBit acc).getLsbD k = acc.getLsbD (k + 1)) ∧
    (crcBit acc).getLsbD 0 = (acc.getLsbD 1 ^^ acc.getLsbD 0)) ∧
  crcBit 0x0000#16 = 0x0000#16 ∧ crcBit 0x0001#16 = 0xA001#16 ∧ crcBit 0xFFFF#16 = 0xDFFE#16 ∧
  crcBit 0x8000#16 = 0x4000#16 ∧ crcBit 0xA001#16 = 0xF001#16

/-- R122, R123: a byte goes into the low 8 bits and is shifted eight times; a sequence is absorbed byte by byte; with the rules' corner cases. -/
def Obligations.CrcAbsorbsBytesInOrder : Prop :=
  (∀ (acc : Word16) (b : Byte),
    crcByte acc b =
      crcBit (crcBit (crcBit (crcBit (crcBit (crcBit (crcBit (crcBit (acc ^^^ b.setWidth 16))))))))) ∧
  (∀ init : Word16, crcCompute [] init = init) ∧
  (∀ (b : Byte) (bytes : List Byte) (init : Word16),
    crcCompute (b :: bytes) init = crcCompute bytes (crcByte init b)) ∧
  (∀ bytes : List Byte, crcCompute bytes = crcCompute bytes 0x0000#16) ∧
  crcByte 0x0000#16 0x00#8 = 0x0000#16 ∧ crcByte 0x8000#16 0x00#8 = 0x0080#16 ∧
  crcByte 0x0000#16 0xFF#8 = 0x4040#16 ∧ crcByte 0x0000#16 0x80#8 = 0xA001#16 ∧
  crcByte 0x0000#16 0x01#8 = 0xC0C1#16 ∧
  crcBit 0x0001#16 = 0xA001#16 ∧ crcBit 0xA001#16 = 0xF001#16 ∧ crcBit 0xF001#16 = 0xD801#16 ∧ crcBit 0xD801#16 = 0xCC01#16 ∧
  crcBit 0xCC01#16 = 0xC601#16 ∧ crcBit 0xC601#16 = 0xC301#16 ∧ crcBit 0xC301#16 = 0xC181#16 ∧ crcBit 0xC181#16 = 0xC0C1#16 ∧
  crcCompute [0x00#8, 0x00#8, 0x00#8] = 0x0000#16 ∧
  crcCompute [0x50#8, 0x30#8, 0x04#8] = 0xD215#16

/-- R124: the bit-serial generator, least significant bit of each byte first, computes the same function. -/
def Obligations.CrcBitSerialFormAgrees : Prop :=
  ∀ (bytes : List Byte) (init : Word16), crcSerial bytes init = crcCompute bytes init

/-- R125: linearity, chaining, the residue (zero when the low byte is appended first; with the high byte first only when the two bytes are equal), the check value. -/
def Obligations.CrcLinearChainsAndLeavesNoResidue : Prop :=
  (∀ (x y : List Byte) (i j : Word16), x.length = y.length →
    crcCompute x i ^^^ crcCompute y j = crcCompute (List.zipWith (fun a b => a ^^^ b) x y) (i ^^^ j)) ∧
  (∀ (x y : List Byte) (i : Word16), crcCompute (x ++ y) i = crcCompute y (crcCompute x i)) ∧
  (∀ x : List Byte, crcCompute (x ++ [(crcCompute x).extractLsb' 0 8, (crcCompute x).extractLsb' 8 8]) = 0x0000#16) ∧
  (∀ x : List Byte, crcCompute (x ++ [(crcCompute x).extractLsb' 8 8, (crcCompute x).extractLsb' 0 8]) = 0x0000#16 ↔
    (crcCompute x).extractLsb' 0 8 = (crcCompute x).extractLsb' 8 8) ∧
  crcCompute [0x31#8, 0x32#8, 0x33#8, 0x34#8, 0x35#8, 0x36#8, 0x37#8, 0x38#8, 0x39#8] = 0xBB3D#16

/-- R434: the CRC is blind to leading zero bytes, so a zero before a frame leaves its CRC check as it was, with every field shifted. -/
def Obligations.CrcBlindToLeadingZeros : Prop :=
  (∀ (k : Nat) (x : List Byte), crcCompute (List.replicate k 0x00#8 ++ x) = crcCompute x) ∧
  (∀ (command : Byte) (f : LongFrame) (order : CrcOrder),
    longFrameBytes f.addr ⟨0x00#8, command :: f.payload, f.crc1, f.crc2⟩ = 0x00#8 :: longFrameBytes command f ∧
    crcOk f.addr ⟨0x00#8, command :: f.payload, f.crc1, f.crc2⟩ order = crcOk command f order)

/-! ## BCD codec (41_bcd.md) -/

/-- R141, R142, R143: a nibble of 10 or more reads as digit 0; 4 and 5 bytes read most significant pair first; the bounds and the corner cases of the rules. -/
def Obligations.BcdFieldsReadDigitPairs : Prop :=
  (∀ x : Nibble, bcdDigit x = if 10 ≤ x.toNat then 0 else x.toNat) ∧
  (∀ b : Byte, (highNibble b).toNat = b.toNat / 16 ∧ (lowNibble b).toNat = b.toNat % 16) ∧
  (∀ a b c d e : Byte,
    decode4 [a, b, c, d] =
      (((bcdDigit (highNibble a) * 10 + bcdDigit (lowNibble a)) * 100 +
        (bcdDigit (highNibble b) * 10 + bcdDigit (lowNibble b))) * 100 +
        (bcdDigit (highNibble c) * 10 + bcdDigit (lowNibble c))) * 100 +
        (bcdDigit (highNibble d) * 10 + bcdDigit (lowNibble d)) ∧
    decode4 [a, b, c, d] ≤ 99999999 ∧
    decode5 [a, b, c, d, e] =
      decode4 [a, b, c, d] * 100 + (bcdDigit (highNibble e) * 10 + bcdDigit (lowNibble e)) ∧
    decode5 [a, b, c, d, e] ≤ 9999999999) ∧
  decode4 [0x12#8, 0x34#8, 0x56#8, 0x78#8] = 12345678 ∧ decode4 [0x99#8, 0x99#8, 0x99#8, 0x99#8] = 99999999 ∧
  decode4 [0xFF#8, 0xFF#8, 0xFF#8, 0xFF#8] = 0 ∧ decode4 [0x00#8, 0x00#8, 0x00#8, 0x00#8] = 0 ∧
  decode4 [0x1A#8, 0x2B#8, 0x3C#8, 0x4D#8] = 10203040 ∧ decode4 [0xA1#8, 0x00#8, 0x00#8, 0x00#8] = 1000000 ∧
  decode5 [0x99#8, 0x99#8, 0x99#8, 0x99#8, 0x99#8] = 9999999999 ∧ decode5 [0x00#8, 0x00#8, 0x00#8, 0x00#8, 0x0F#8] = 0 ∧
  decode5 [0x00#8, 0x00#8, 0x01#8, 0x23#8, 0x45#8] = 12345 ∧
  bcdDigit 9#4 = 9 ∧ bcdDigit 10#4 = 0 ∧ bcdDigit 15#4 = 0 ∧ bcdDigit 0xB#4 = 0

/-- R146: an integer is clamped to 0 .. 99_999_999 and packed two digits a byte, most significant first; with the corner cases of the rule. -/
def Obligations.BcdEncodePacksClampedDigits : Prop :=
  (∀ (n : Int) (i : Nat), i < 4 →
    ∃ b : Byte, (encode4 n)[i]? = some b ∧
      (highNibble b).toNat = (max 0 (min n 99999999)).toNat / 10 ^ (7 - 2 * i) % 10 ∧
      (lowNibble b).toNat = (max 0 (min n 99999999)).toNat / 10 ^ (6 - 2 * i) % 10) ∧
  (∀ n : Int, (encode4 n).length = 4) ∧
  encode4 0 = [0x00#8, 0x00#8, 0x00#8, 0x00#8] ∧ encode4 (-5) = [0x00#8, 0x00#8, 0x00#8, 0x00#8] ∧
  encode4 99999999 = [0x99#8, 0x99#8, 0x99#8, 0x99#8] ∧ encode4 100000000 = [0x99#8, 0x99#8, 0x99#8, 0x99#8] ∧
  encode4 7 = [0x00#8, 0x00#8, 0x00#8, 0x07#8] ∧ encode4 800 = [0x00#8, 0x00#8, 0x08#8, 0x00#8]

/-- R147 (a), (b), (c): decoding an encoded integer gives the clamped integer; encoding a decoded field gives the field with every invalid nibble replaced by 0, hence the field itself
when every nibble is a digit; a field and its cleaned form read alike. -/
def Obligations.BcdRoundTrips : Prop :=
  (∀ n : Int, (decode4 (encode4 n) : Int) = max 0 (min n 99999999)) ∧
  (∀ d : List Byte, d.length = 4 →
    encode4 (decode4 d) = d.map bcdClean ∧ decode4 (d.map bcdClean) = decode4 d ∧
    ((∀ b ∈ d, (highNibble b).toNat < 10 ∧ (lowNibble b).toNat < 10) → encode4 (decode4 d) = d))

/-! ## Frame codec (42_frame_codec.md) -/

/-- R164: a byte is appended; a trailer that completes a shape moves the whole buffer into the queue, the long shape tested first; otherwise the buffer is kept. The premise is the
unbounded model with the specified reading of R162. -/
def Obligations.RxByteBuffersOrCutsFrame : Prop :=
  ∀ (b : Byte) (s : State), unbounded s →
    exec (.stepRxByte b) s = .next
      (if b = 0xFA#8 ∧ 7 ≤ s.rxBuf.length + 1 ∧ (s.rxBuf ++ [b])[s.rxBuf.length - 1]? = some 0x03#8 then
        { s with frameQ := s.frameQ ++ [⟨.long, s.rxBuf ++ [b]⟩], rxBuf := [] }
      else if b = 0xFA#8 ∧ s.rxBuf.length + 1 = 3 ∧ (s.rxBuf ++ [b])[0]? = some 0x50#8 then
        { s with frameQ := s.frameQ ++ [⟨.short, s.rxBuf ++ [b]⟩], rxBuf := [] }
      else { s with rxBuf := s.rxBuf ++ [b] })

/-- R61, R62 (decided by the spec, D6 and D7; log entry 7) and R162 (D4; log entry 6): a byte for a full buffer faults, a frame cut for a full queue faults, and with `ETX_ADJACENT = false` a
candidate that holds an ETX anywhere before its trailer is refused. -/
def Obligations.FullBuffersFaultAndLooseEtxIsRefused : Prop :=
  (∀ (b : Byte) (s : State) (c : Nat), s.cfg.rxCap = some c → c ≤ s.rxBuf.length →
    exec (.stepRxByte b) s = .fault .rxOverflow) ∧
  (∀ (s : State) (c : Nat), s.cfg.rxCap = none → s.cfg.etxAdjacent = true → s.cfg.queueCap = some c → c ≤ s.frameQ.length →
    (6 ≤ s.rxBuf.length ∧ s.rxBuf.getLast? = some 0x03#8 ∨ s.rxBuf.length = 2 ∧ s.rxBuf[0]? = some 0x50#8) →
    exec (.stepRxByte 0xFA#8) s = .fault .queueOverflow) ∧
  (∀ s : State, s.cfg.rxCap = none → s.cfg.etxAdjacent = false → 6 ≤ s.rxBuf.length → 0x03#8 ∈ s.rxBuf →
    exec (.stepRxByte 0xFA#8) s = .refused .etxPlacementUnspecified)

/-- R166: from a buffer without a complete frame, a run of `RxByte` steps emits exactly the frames that the source's scan of the whole buffer emits, and leaves the same remainder. -/
def Obligations.ByteStepsEqualWholeBufferScan : Prop :=
  ∀ (bytes : List Byte) (s : State), unbounded s → noFrameIn s.rxBuf = true →
    feed bytes s = .next
      { s with
        frameQ := s.frameQ ++ (scanBuffer (s.rxBuf ++ bytes)).1
        rxBuf := (scanBuffer (s.rxBuf ++ bytes)).2 }

/-- R72: chunks fed one after another by `RxByte` steps, from a buffer without a complete frame, leave the frames and the remainder of one scan of the whole input, and so do the source's scans after each chunk; and
in every state, finite capacities and stops included, the outcome is that of feeding the bytes in one piece. -/
def Obligations.ChunkBoundariesDoNotMatter : Prop :=
  (∀ (chunks : List (List Byte)) (s : State), unbounded s → noFrameIn s.rxBuf = true →
    feedChunks chunks s = .next
      { s with
        frameQ := s.frameQ ++ (scanBuffer (s.rxBuf ++ chunks.flatten)).1
        rxBuf := (scanBuffer (s.rxBuf ++ chunks.flatten)).2 } ∧
    feedChunks chunks s = .next
      { s with
        frameQ := s.frameQ ++ (scanChunks s.rxBuf chunks).1
        rxBuf := (scanChunks s.rxBuf chunks).2 }) ∧
  (∀ (chunks : List (List Byte)) (s : State), feedChunks chunks s = feed chunks.flatten s)

/-- R201: a frame the encoder built, fed byte by byte into an empty buffer, comes back whole and with a good CRC, under the rule's two side conditions; and the rule's counterexample without them. -/
def Obligations.EncodedFrameComesBackWhole : Prop :=
  (∀ (body : List Byte) (order : CrcOrder) (s : State),
    unbounded s → s.rxBuf = [] → 7 ≤ (longClose body order).length →
    (∀ t, 6 ≤ t → t < (longClose body order).length - 1 →
      ¬ ((longClose body order)[t]? = some 0xFA#8 ∧ (longClose body order)[t - 1]? = some 0x03#8)) →
    ¬ ((longClose body order)[0]? = some 0x50#8 ∧ (longClose body order)[2]? = some 0xFA#8) →
    feed (longClose body order) s = .next { s with frameQ := s.frameQ ++ [⟨.long, longClose body order⟩], rxBuf := [] } ∧
    ∃ (command : Byte) (f : LongFrame),
      splitLong (longClose body order) = .ok (command, f) ∧ [f.addr, command] ++ f.payload = body ∧
      longFrameBytes command f = longClose body order ∧ crcOk command f order = true) ∧
  encodePreset 0x50#8 16803 .loHi =
    [0x50#8, 0x30#8, 0x03#8, 0x04#8, 0x00#8, 0x01#8, 0x68#8, 0x03#8, 0xFA#8, 0xCD#8, 0x03#8, 0xFA#8] ∧
  feed (encodePreset 0x50#8 16803 .loHi) State.reset = .next
    { State.reset with
      frameQ := [⟨.long, [0x50#8, 0x30#8, 0x03#8, 0x04#8, 0x00#8, 0x01#8, 0x68#8, 0x03#8, 0xFA#8]⟩]
      rxBuf := [0xCD#8, 0x03#8, 0xFA#8] } ∧
  crcOk 0x30#8 ⟨0x50#8, [0x03#8, 0x04#8, 0x00#8], 0x01#8, 0x68#8⟩ .loHi = false

/-! ## Command encoder and transmit (43_command_encoder.md) -/

/-- R191: the two CRC bytes in wire order. -/
def Obligations.CrcPairFollowsOrder : Prop :=
  (∀ c : Word16,
    crcPair c .loHi = [BitVec.ofNat 8 (c.toNat % 256), BitVec.ofNat 8 (c.toNat / 256)] ∧
    crcPair c .hiLo = [BitVec.ofNat 8 (c.toNat / 256), BitVec.ofNat 8 (c.toNat % 256)] ∧
    (c.extractLsb' 0 8 = c.extractLsb' 8 8 → crcPair c .loHi = crcPair c .hiLo)) ∧
  crcPair 0xD215#16 .loHi = [0x15#8, 0xD2#8] ∧ crcPair 0xD215#16 .hiLo = [0xD2#8, 0x15#8]

/-- R192, R193, R195, R196: how a Long frame is closed, the generic command frame, the totals request, the two minimal frames; with the rules' examples. -/
def Obligations.OutboundFrameLayouts : Prop :=
  (∀ (body : List Byte) (order : CrcOrder),
    longClose body order = body ++ crcPair (crcCompute body 0x0000#16) order ++ [0x03#8, 0xFA#8] ∧
    (longClose body order).length = body.length + 4) ∧
  (∀ (addr nozzle code : Byte) (order : CrcOrder),
    encodeGeneric addr nozzle code order = longClose [addr, 0x30#8, nozzle, 0x01#8, code] order ∧
    encodeTotalsRequest addr nozzle order = longClose [addr, 0x3C#8, 0x65#8, 0x01#8, nozzle] order) ∧
  minPoll = [0x50#8, 0x20#8, 0xFA#8] ∧ minAck = [0x50#8, 0xC0#8, 0xFA#8] ∧
  longClose [0x50#8, 0x30#8, 0x04#8] .loHi = [0x50#8, 0x30#8, 0x04#8, 0x15#8, 0xD2#8, 0x03#8, 0xFA#8] ∧
  encodeGeneric 0x50#8 0x01#8 0x06#8 .loHi = [0x50#8, 0x30#8, 0x01#8, 0x01#8, 0x06#8, 0x1F#8, 0x5E#8, 0x03#8, 0xFA#8] ∧
  encodeGeneric 0x50#8 0x01#8 0x06#8 .hiLo = [0x50#8, 0x30#8, 0x01#8, 0x01#8, 0x06#8, 0x5E#8, 0x1F#8, 0x03#8, 0xFA#8] ∧
  encodeTotalsRequest 0x50#8 0x01#8 .loHi = [0x50#8, 0x3C#8, 0x65#8, 0x01#8, 0x01#8, 0x1C#8, 0x13#8, 0x03#8, 0xFA#8]

/-- R194, R85 (the unit centilitres is decided by the spec, D24): the preset frame carries the volume clamped to 10 .. 25000 as four BCD bytes. -/
def Obligations.PresetFrameCarriesClampedVolume : Prop :=
  (∀ (addr : Byte) (volumeCl : Int) (order : CrcOrder),
    encodePreset addr volumeCl order =
      longClose ([addr, 0x30#8, 0x03#8, 0x04#8] ++ encode4 (max 10 (min volumeCl 25000))) order ∧
    (encodePreset addr volumeCl order).length = 12 ∧
    (volumeCl ≤ 10 → ((encodePreset addr volumeCl order).drop 4).take 4 = [0x00#8, 0x00#8, 0x00#8, 0x10#8]) ∧
    (25000 ≤ volumeCl → ((encodePreset addr volumeCl order).drop 4).take 4 = [0x00#8, 0x02#8, 0x50#8, 0x00#8])) ∧
  encodePreset 0x50#8 800 .loHi =
    [0x50#8, 0x30#8, 0x03#8, 0x04#8, 0x00#8, 0x00#8, 0x08#8, 0x00#8, 0xC3#8, 0x0C#8, 0x03#8, 0xFA#8]

/-- R199 (decided by the spec, D34), for the five outbound frames: with the transport open and not faulted the frame is appended to `tx`; otherwise `send-failed` is reported; nothing else changes. -/
def Obligations.OutboundFramesAreSentOrReported : Prop :=
  ∀ (s : State) (addr nozzle code : Byte) (volumeCl : Int),
    ∀ p ∈ [(Instr.txPresetVolume addr volumeCl, encodePreset addr volumeCl s.crcOrder),
           (Instr.txGeneric addr nozzle code, encodeGeneric addr nozzle code s.crcOrder),
           (Instr.txTotalsRequest addr nozzle, encodeTotalsRequest addr nozzle s.crcOrder),
           (Instr.txMinPoll, [0x50#8, 0x20#8, 0xFA#8]),
           (Instr.txMinAck, [0x50#8, 0xC0#8, 0xFA#8])],
      exec p.1 s = .next
        (if s.transportOpen = true ∧ s.txFaulted = false then { s with tx := s.tx ++ [p.2] }
        else { s with evt := s.evt ++ [.sendFailed] })

/-! ## Host operations (48_host_operations.md) -/

/-- R351, R352, R283 (the order of the checks is decided by the spec, D19): the handshake gate, then the RESUME check, then the guarded send; at most one report; nothing else changes. -/
def Obligations.SendGenericPassesGateThenResumeCheck : Prop :=
  ∀ (code : Byte) (s : State),
    exec (.hostSendGeneric code) s = .next
      (if s.hs.ok = false ∧ code ∉ s.cfg.readQueryCodes then
        { s with evt := s.evt ++ [.commandRefused .noHandshake] }
      else if s.cfg.codeResume = some code ∧ s.nozzleOut ≠ some true then
        { s with evt := s.evt ++ [.commandRefused .nozzleStowed] }
      else if s.transportOpen = true ∧ s.txFaulted = false then
        { s with tx := s.tx ++ [encodeGeneric s.deviceAddr s.nozzle code s.crcOrder] }
      else { s with evt := s.evt ++ [.sendFailed] })

/-- R353 (decided by the spec, D24 and D41): the preset needs the handshake and an unused guard; a frame that went out arms the watch, sets the guard and defers AUTHORIZE; a failed send arms nothing. -/
def Obligations.PresetIsSentOncePerSaleAndArmsWatch : Prop :=
  ∀ (volumeCl : Int) (s : State),
    exec (.hostSendPresetVolume volumeCl) s = .next
      (if s.hs.ok = false then { s with evt := s.evt ++ [.commandRefused .noHandshake] }
      else if s.cfg.trackerPresent = true ∧ s.sale.cd3SentThisSale = true then
        { s with evt := s.evt ++ [.commandRefused .presetAlreadySent] }
      else if s.transportOpen = true ∧ s.txFaulted = false then
        if s.cfg.trackerPresent = true then
          { s with
            tx := s.tx ++ [encodePreset s.deviceAddr volumeCl s.crcOrder]
            sale := { s.sale with
              cd3SentThisSale := true
              presetTargetMl := some (10 * (max 10 (min volumeCl 25000)).toNat)
              authorizePending := true } }
        else { s with tx := s.tx ++ [encodePreset s.deviceAddr volumeCl s.crcOrder] }
      else { s with evt := s.evt ++ [.sendFailed] })

/-- R354, R355, R356: the totals request is gated only where it does not count as a read query; the minimal frames are not gated. -/
def Obligations.TotalsRequestPollAndAckOperations : Prop :=
  ∀ s : State,
    exec .hostSendTotalsRequest s = .next
      (if s.hs.ok = false ∧ s.cfg.totalsIsReadQuery = false then
        { s with evt := s.evt ++ [.commandRefused .noHandshake] }
      else if s.transportOpen = true ∧ s.txFaulted = false then
        { s with tx := s.tx ++ [encodeTotalsRequest s.deviceAddr s.nozzle s.crcOrder] }
      else { s with evt := s.evt ++ [.sendFailed] }) ∧
    exec .hostSendMinPoll s = .next
      (if s.transportOpen = true ∧ s.txFaulted = false then { s with tx := s.tx ++ [[0x50#8, 0x20#8, 0xFA#8]] }
      else { s with evt := s.evt ++ [.sendFailed] }) ∧
    exec .hostSendMinAck s = .next
      (if s.transportOpen = true ∧ s.txFaulted = false then { s with tx := s.tx ++ [[0x50#8, 0xC0#8, 0xFA#8]] }
      else { s with evt := s.evt ++ [.sendFailed] })

/-- R357 to R361, R386, R71 (decided by the spec, D5, D34, D35, D36): each configuration operation and the transport fault writes exactly its registers, and a configuration operation taken twice in
a row leaves what the first left. -/
def Obligations.ConfigurationWritesItsRegistersOnly : Prop :=
  ∀ (s : State) (order : CrcOrder) (b : Bool) (intervalMs : Nat) (addr : Byte),
    exec (.hostSetCrcOrder order) s = .next { s with crcOrder := order } ∧
    exec (.hostSetAutoAck b) s = .next { s with autoAck := b } ∧
    exec (.hostSetAutoPoll b intervalMs) s = .next { s with autoPoll := b, pollIntervalMs := intervalMs } ∧
    exec (.hostTransportOpen addr) s = .next { s with transportOpen := true, txFaulted := false, deviceAddr := addr } ∧
    exec .hostTransportClose s = .next { s with transportOpen := false } ∧
    exec .stepTransportFault s = .next { s with txFaulted := true, evt := s.evt ++ [.transportFault] } ∧
    (∀ i ∈ [Instr.hostSetCrcOrder order, .hostSetAutoAck b, .hostSetAutoPoll b intervalMs, .hostTransportOpen addr, .hostTransportClose],
      ∀ t : State, exec i s = .next t → exec i t = .next t)

/-- R268, R39 (decided by the spec, D27): a hint is kept and reported only after the handshake; it is what the host is shown, and `pumpState` stays. -/
def Obligations.IntentHintNeedsHandshake : Prop :=
  ∀ (state : PumpState) (s : State),
    (s.hs.ok = true →
      exec (.hostIntentHint state) s = .next { s with hintState := some state, evt := s.evt ++ [.statusHint state] }) ∧
    (s.hs.ok = false → exec (.hostIntentHint state) s = .next s) ∧
    displayState { s with hintState := some state } = state ∧ displayState { s with hintState := none } = s.pumpState

/-- R350, R364, R7: a `Host` step is the meaning of the operation it carries, and every operation completes in every state. -/
def Obligations.HostStepRunsItsOperation : Prop :=
  ∀ (op : HostOp) (s : State),
    exec (.stepHost op) s = exec (hostRow op) s ∧ ∃ t : State, exec (.stepHost op) s = .next t

/-! ## Timer and reset (46_handshake_heartbeat.md, 70_reset_and_hazards.md) -/

/-- R293: while `autoPoll` and `transportOpen` hold, a timer step sends the poll whatever the pump state, or reports that it cannot; offered while not enabled it does nothing. -/
def Obligations.TimerFirePollsWhileEnabled : Prop :=
  ∀ s : State,
    exec .stepTimerFire s = .next
      (if s.autoPoll = true ∧ s.transportOpen = true then
        if s.txFaulted = false then { s with tx := s.tx ++ [[0x50#8, 0x20#8, 0xFA#8]] }
        else { s with evt := s.evt ++ [.sendFailed] }
      else s)

/-- R52 (the values the source does not give are decided by the spec, D19 to D35; `DEVICE_ADDR` and `LOAD_*` are arguments, whose values are this model's, log entry 13): every field of the
block at the start of a session. -/
def Obligations.ResetValuesOfEveryField : Prop :=
  ∀ s : State, s = State.reset →
    s.crcOrder = .loHi ∧ s.autoAck = true ∧ s.autoPoll = true ∧ s.pollIntervalMs = 500 ∧
    s.deviceAddr = s.cfg.deviceAddr ∧ s.nozzle = 0x01#8 ∧ s.transportOpen = true ∧ s.txFaulted = false ∧
    s.pumpState = .reset ∧ s.hintState = none ∧
    s.hs.ok = false ∧ s.hs.everOk = false ∧ s.hs.lastOkTimestamp = none ∧
    s.nozzleOut = none ∧ s.lastNozzle = none ∧ s.lastPriceRaw = none ∧
    s.sale.active = false ∧ s.sale.hasVolumeSample = false ∧ s.sale.lastVolumeCl = 0 ∧ s.sale.lastAmountC = 0 ∧
    s.sale.presetTargetMl = none ∧ s.sale.stopSent = false ∧ s.sale.cd3SentThisSale = false ∧
    s.sale.countersBumped = false ∧ s.sale.authorizePending = false ∧
    s.counters = s.cfg.load ∧ s.rxBuf = [] ∧ s.frameQ = [] ∧ s.tx = [] ∧ s.evt = []

/-- R420 (decided by the spec, D35; that `load()` may answer anew is log entry 11): a session reset gives every field of the block its reset value under the parameters in force, the loaded counters apart. -/
def Obligations.SessionResetRestoresEveryField : Prop :=
  ∀ (load : Option Counters) (s : State), ∃ t : State, exec (.stepSessionReset load) s = .next t ∧
    t.cfg = { s.cfg with load := load.getD s.cfg.load } ∧ t.script = s.script ∧
    t.crcOrder = .loHi ∧ t.autoAck = s.cfg.resetAutoAck ∧ t.autoPoll = s.cfg.resetAutoPoll ∧ t.pollIntervalMs = 500 ∧
    t.deviceAddr = s.cfg.deviceAddr ∧ t.nozzle = s.cfg.nozzle ∧ t.transportOpen = true ∧ t.txFaulted = false ∧
    t.pumpState = .reset ∧ t.hintState = none ∧ t.hs = ⟨false, false, none⟩ ∧
    t.nozzleOut = none ∧ t.lastNozzle = none ∧ t.lastPriceRaw = none ∧
    t.sale = ⟨false, false, 0, 0, none, false, false, false, false⟩ ∧
    t.counters = load.getD s.cfg.load ∧ t.rxBuf = [] ∧ t.frameQ = [] ∧ t.tx = [] ∧ t.evt = []

/-! ## Inbound frames (44_response_decoder.md) -/

/-- R212, R214 (that other codes warn is decided by the spec, D16): a poll echo and an ack echo are traced and nothing more; an unknown code also warns. No acknowledge is sent. -/
def Obligations.EchoesAndUnknownShortFramesAreTraced : Prop :=
  ∀ s : State, s.transportOpen = true →
    exec .rxPollEcho s = .next { s with evt := s.evt ++ [.frameTrace [0x50#8, 0x20#8, 0xFA#8] true] } ∧
    exec .rxAckEcho s = .next { s with evt := s.evt ++ [.frameTrace [0x50#8, 0xC0#8, 0xFA#8] true] } ∧
    (∀ code : Byte, exec (.rxUnknownShort code) s = .next
      { s with evt := s.evt ++ [.frameTrace [0x50#8, code, 0xFA#8] true, .decodeWarning (.unknownShortCode code)] })

/-- R213, R351, R352 (decided by the spec, D19 and D34): a Busy issues the deferred AUTHORIZE, once, through both checks of the generic command path, and otherwise is only traced; the flag is cleared only when the frame
went out: a refusal (no handshake; `CODE_RESUME` equal to `CODE_AUTHORIZE` and the nozzle not known to be out) and a failed send keep it. -/
def Obligations.BusySendsDeferredAuthorizeOnce : Prop :=
  ∀ s : State, s.transportOpen = true →
    (s.sale.authorizePending = false →
      exec .rxBusy s = .next { s with evt := s.evt ++ [.frameTrace [0x50#8, 0x70#8, 0xFA#8] true] }) ∧
    (s.sale.authorizePending = true →
      exec .rxBusy s = .next
        (if s.hs.ok = false ∧ s.cfg.codeAuthorize ∉ s.cfg.readQueryCodes then
          { s with evt := s.evt ++ [.frameTrace [0x50#8, 0x70#8, 0xFA#8] true, .commandRefused .noHandshake] }
        else if s.cfg.codeResume = some s.cfg.codeAuthorize ∧ s.nozzleOut ≠ some true then
          { s with evt := s.evt ++ [.frameTrace [0x50#8, 0x70#8, 0xFA#8] true, .commandRefused .nozzleStowed] }
        else if s.txFaulted = false then
          { s with
            evt := s.evt ++ [.frameTrace [0x50#8, 0x70#8, 0xFA#8] true]
            tx := s.tx ++ [encodeGeneric s.deviceAddr s.nozzle s.cfg.codeAuthorize s.crcOrder]
            sale := { s.sale with authorizePending := false } }
        else { s with evt := s.evt ++ [.frameTrace [0x50#8, 0x70#8, 0xFA#8] true, .sendFailed] })) ∧
    (∀ t u : State, exec .rxBusy s = .next t → exec .rxBusy t = .next u → t.tx ≠ s.tx → u.tx = t.tx)

/-- R211 (decided by the spec, D34): with the transport closed every inbound frame is lost with one report, unread: each of the 28 inbound rows, and a `Dispatch` of any queued frame. -/
def Obligations.ClosedTransportDropsFrames : Prop :=
  ∀ (s : State) (now : Nat) (f : LongFrame) (command code : Byte), s.transportOpen = false →
    (∀ i ∈ [Instr.rxDirectStatus now f, .rxStatusReply now f, .rxComposite31 now f, .rxComposite32 now f,
        .rxComposite33 now f, .rxComposite34 now f, .rxComposite35 now f, .rxComposite36 now f, .rxComposite37 now f,
        .rxComposite38 now f, .rxComposite39 now f, .rxComposite3a now f, .rxComposite3b now f, .rxComposite3c now f,
        .rxComposite3d now f, .rxComposite3e now f, .rxComposite3f now f, .rxCompositeTotals now f,
        .rxStatusReplyCd now f, .rxAltStatus now f, .rxAltVolume now f, .rxAltTotals now f, .rxAltNozzle now f,
        .rxUnknownCommand command f, .rxPollEcho, .rxAckEcho, .rxBusy, .rxUnknownShort code],
      exec i s = .next { s with evt := s.evt ++ [.softFail .decodeAfterClose] }) ∧
    (∀ (q : Frame) (rest : List Frame), s.frameQ = q :: rest →
      exec (.stepDispatch now) s = .next { s with frameQ := rest, evt := s.evt ++ [.softFail .decodeAfterClose] })

/-- R173: a Long frame whose CRC fails is reported and nothing else happens, whatever its command. -/
def Obligations.CrcFailureOnlyTraces : Prop :=
  ∀ (s : State) (now : Nat) (f : LongFrame) (command : Byte), s.transportOpen = true →
    ∀ p ∈ [(0x01#8, Instr.rxDirectStatus now f), (0x30#8, .rxStatusReply now f), (0x31#8, .rxComposite31 now f),
        (0x32#8, .rxComposite32 now f), (0x33#8, .rxComposite33 now f), (0x34#8, .rxComposite34 now f),
        (0x35#8, .rxComposite35 now f), (0x36#8, .rxComposite36 now f), (0x37#8, .rxComposite37 now f),
        (0x38#8, .rxComposite38 now f), (0x39#8, .rxComposite39 now f), (0x3A#8, .rxComposite3a now f),
        (0x3B#8, .rxComposite3b now f), (0x3C#8, .rxComposite3c now f), (0x3D#8, .rxComposite3d now f),
        (0x3E#8, .rxComposite3e now f), (0x3F#8, .rxComposite3f now f), (0x65#8, .rxCompositeTotals now f),
        (0xCD#8, .rxStatusReplyCd now f), (0xD1#8, .rxAltStatus now f), (0xD2#8, .rxAltVolume now f),
        (0xD3#8, .rxAltTotals now f), (0xD4#8, .rxAltNozzle now f), (command, .rxUnknownCommand command f)],
      crcOk p.1 f s.crcOrder = false →
        exec p.2 s = .next { s with evt := s.evt ++ [.frameTrace (longFrameBytes p.1 f) false] }

/-- R210, R296, R175, R171, R221 (the order of the reports is decided by the spec, D33, the length byte D12, the unknown-command warning D14): what every CRC-valid Long frame gets before its handler, and the
whole effect of a frame with an unknown command byte. -/
def Obligations.AcceptedLongFrameIsTracedAcknowledgedChecked : Prop :=
  (∀ (command : Byte) (f : LongFrame) (s : State),
    acceptLong command f s =
      { s with
        tx := s.tx ++ (if s.autoAck = true ∧ s.transportOpen = true ∧ s.txFaulted = false then [[0x50#8, 0xC0#8, 0xFA#8]] else [])
        evt := s.evt ++ [.frameTrace ([f.addr, command] ++ f.payload ++ [f.crc1, f.crc2, 0x03#8, 0xFA#8]) true] ++
          (if s.autoAck = true ∧ ¬ (s.transportOpen = true ∧ s.txFaulted = false) then [.sendFailed] else []) ++
          (if 2 ≤ f.payload.length ∧ ¬ (0x30 ≤ command.toNat ∧ command.toNat ≤ 0x3F) ∧
              (f.payload.getD 1 0x00#8).toNat ≠ f.payload.length - 2 then
            [.decodeWarning (.lengthMismatch (f.payload.getD 1 0x00#8).toNat (f.payload.length - 2))]
          else []) }) ∧
  (∀ (command : Byte) (f : LongFrame) (order : CrcOrder),
    crcOk command f order = decide (crcPair (crcCompute ([f.addr, command] ++ f.payload)) order = [f.crc1, f.crc2])) ∧
  (∀ (command : Byte) (f : LongFrame) (s : State), s.transportOpen = true → crcOk command f s.crcOrder = true →
    exec (.rxUnknownCommand command f) s = .next
      { acceptLong command f s with
        evt := (acceptLong command f s).evt ++ [.decodeWarning (.unknownCommand command)] })

/-- R215, R216, R217 (decided by the spec, D11): the three status frames, after acceptance, apply a one-byte payload as a status under their table, and only warn of any other payload. -/
def Obligations.StatusFramesApplyOneByteStatus : Prop :=
  ∀ (s : State) (now : Nat) (f : LongFrame), s.transportOpen = true →
    ∀ p ∈ [(0x30#8, StatusTable.base, Instr.rxStatusReply now f), (0xCD#8, StatusTable.base, Instr.rxStatusReplyCd now f),
        (0x01#8, StatusTable.extended, Instr.rxDirectStatus now f)],
      crcOk p.1 f s.crcOrder = true →
        (∀ code : Byte, f.payload = [code] →
          exec p.2.2 s = .next (statusItem code p.2.1 now (acceptLong p.1 f s))) ∧
        (f.payload.length ≠ 1 →
          exec p.2.2 s = .next
            { acceptLong p.1 f s with
              evt := (acceptLong p.1 f s).evt ++ [.decodeWarning (.badPayloadShape f.payload.length)] })

/-! ## Status codes and the pump state machine (45_pump_state_machine.md) -/

/-- R262, R91, R263 (codes 01, 02, 03 and 05 are decided by the spec, D9; log entry 4): the two tables under the default parameters, and the rows the source fixes under every value of the parameters. -/
def Obligations.StatusCodeTables : Prop :=
  (∀ code : Byte,
    mapStatus Config.Params.default code .base =
      (if code = 0x00#8 then some .notProgrammed else if code = 0x01#8 then some .reset
      else if code = 0x02#8 then some .authorized else if code = 0x04#8 then some .filling
      else if code = 0x05#8 then some .fillingCompleted else if code = 0x06#8 then some .maxAmountVolume else none) ∧
    mapStatus Config.Params.default code .extended =
      (if code = 0x07#8 then some .switchedOff else if code = 0x0B#8 then some .suspended
      else mapStatus Config.Params.default code .base)) ∧
  (∀ p : Config.Params,
    (∀ table, mapStatus p 0x00#8 table = some .notProgrammed ∧ mapStatus p 0x04#8 table = some .filling ∧
      mapStatus p 0x06#8 table = some .maxAmountVolume ∧ mapStatus p 0x03#8 table = p.statusCode03) ∧
    mapStatus p 0x07#8 .extended = some .switchedOff ∧ mapStatus p 0x0B#8 .extended = some .suspended ∧
    mapStatus p 0x07#8 .base = none ∧ mapStatus p 0x0B#8 .base = none)

/-- R237, R281, R264, R265, R266 (decided by the spec, D9, D20 and D28), for each of the eighteen status code rows: the handshake is touched first; an unmapped code then only warns; a mapped one sets the state, ends a hint, is
reported and reaches the tracker. -/
def Obligations.StatusRowsTouchHandshakeThenSetState : Prop :=
  ∀ (s : State) (now : Nat) (code : Byte),
    ∀ p ∈ [(0x00#8, StatusTable.base, Instr.stNotProgrammed now), (0x01#8, .base, .stReset now), (0x02#8, .base, .stAuthorized now),
        (0x04#8, .base, .stFilling now), (0x05#8, .base, .stFillingCompleted now), (0x06#8, .base, .stMaxAmountVolume now),
        (0x03#8, .base, .stCode03 now), (code, .base, .stUnmapped now code),
        (0x00#8, .extended, .stxNotProgrammed now), (0x01#8, .extended, .stxReset now), (0x02#8, .extended, .stxAuthorized now),
        (0x04#8, .extended, .stxFilling now), (0x05#8, .extended, .stxFillingCompleted now), (0x06#8, .extended, .stxMaxAmountVolume now),
        (0x07#8, .extended, .stxSwitchedOff now), (0x0B#8, .extended, .stxSuspended now), (0x03#8, .extended, .stxCode03 now),
        (code, .extended, .stxUnmapped now code)],
      exec p.2.2 s = .next (statusItem p.1 p.2.1 now s) ∧
      statusItem p.1 p.2.1 now s =
        (match mapStatus s.cfg p.1 p.2.1 with
        | none =>
          { s with
            hs := ⟨true, if s.hs.ok then s.hs.everOk else true, some now⟩
            evt := s.evt ++ (if s.hs.ok then [] else [.handshakeAcquired]) ++ [.decodeWarning (.unknownStatus p.1)] }
        | some new =>
          let u : State :=
            { s with
              hs := ⟨true, if s.hs.ok then s.hs.everOk else true, some now⟩
              pumpState := new
              hintState := none
              evt := s.evt ++ (if s.hs.ok then [] else [.handshakeAcquired]) ++ [.statusChanged new] }
          if s.cfg.trackerPresent then onStatus s.pumpState new u else u)

/-! ## Sale window and preset tracker (47_sale_preset_tracker.md) -/

/-- R310, R311, R313, R314 (decided by the spec, D25 and D26): what the tracker does on a status: `Authorized` and `Filling` open a window once; a terminal state closes an active one with one bump or one diagnostic; a
reset-class state that is entered clears the sale memory, after the bump; `Suspended` does nothing. -/
def Obligations.SaleWindowOpensAndClosesByStatus : Prop :=
  ∀ (prev new : PumpState) (s : State),
    ((new = .authorized ∨ new = .filling) → s.sale.active = false →
      onStatus prev new s =
        { s with
          sale := { s.sale with
            active := true, hasVolumeSample := false, lastVolumeCl := 0, lastAmountC := 0
            stopSent := false, countersBumped := false }
          evt := s.evt ++ [.saleOpened] }) ∧
    ((new = .authorized ∨ new = .filling) → s.sale.active = true → onStatus prev new s = s) ∧
    (new = .suspended → onStatus prev new s = s) ∧
    ((new = .fillingCompleted ∨ new = .maxAmountVolume ∨
        (new = .reset ∨ new = .switchedOff ∨ new = .notProgrammed) ∧ prev = new) →
      s.sale.active = false → onStatus prev new s = s) ∧
    ((new = .reset ∨ new = .switchedOff ∨ new = .notProgrammed) → prev ≠ new → s.sale.active = false →
      onStatus prev new s =
        { s with sale := { s.sale with
            hasVolumeSample := false, lastVolumeCl := 0, lastAmountC := 0, stopSent := false, cd3SentThisSale := false } }) ∧
    ((new = .fillingCompleted ∨ new = .maxAmountVolume ∨ new = .reset ∨ new = .switchedOff ∨ new = .notProgrammed) →
      s.sale.active = true →
      ∃ t : State,
        (s.sale.hasVolumeSample = true → s.sale.countersBumped = false →
          t = { s with
            counters := ⟨s.counters.vehicleCount + 1, s.counters.totalCl + s.sale.lastVolumeCl⟩
            sale := { s.sale with active := false, presetTargetMl := none, countersBumped := true }
            evt := s.evt ++ [.countersSave (s.counters.vehicleCount + 1) (s.counters.totalCl + s.sale.lastVolumeCl)] }) ∧
        (s.sale.hasVolumeSample = true → s.sale.countersBumped = true →
          t = { s with sale := { s.sale with active := false, presetTargetMl := none } }) ∧
        (s.sale.hasVolumeSample = false →
          t = { s with
            sale := { s.sale with active := false, presetTargetMl := none }
            evt := s.evt ++ [.decodeWarning .noSampleInSale] }) ∧
        onStatus prev new s =
          (if (new = .reset ∨ new = .switchedOff ∨ new = .notProgrammed) ∧ prev ≠ new then
            { t with sale := { t.sale with
                hasVolumeSample := false, lastVolumeCl := 0, lastAmountC := 0, stopSent := false, cd3SentThisSale := false } }
          else t))

/-- R313, R310, R311, R265 (that the guard `active` does it is decided by the spec, D26), for every terminal state and both tables: a terminal status ends the window; without a window it changes no counter and reports the status
alone; an instruction opens a window only by reporting `Authorized` or `Filling`; so from a terminal status on nothing is counted or saved until a new window opens, and of two terminal statuses in a row the second changes
no counter and the first saves at most once. -/
def Obligations.SecondTerminalStatusDoesNotBump : Prop :=
  (∀ (s : State) (c : Byte) (table : StatusTable) (now : Nat) (p : PumpState),
    mapStatus s.cfg c table = some p → isTerminal p = true →
    (s.cfg.trackerPresent = true ∨ s.sale.active = false → (statusItem c table now s).sale.active = false) ∧
    (s.sale.active = false →
      (statusItem c table now s).counters = s.counters ∧
      (statusItem c table now s).evt =
        s.evt ++ (if s.hs.ok then [] else [.handshakeAcquired]) ++ [.statusChanged p])) ∧
  (∀ (i : Instr) (s t : State), exec i s = .next t → s.sale.active = false → t.sale.active = true →
    ∃ more : List Event, t.evt = s.evt ++ more ∧ (.statusChanged .authorized ∈ more ∨ .statusChanged .filling ∈ more)) ∧
  (∀ (i : Instr) (s t : State), exec i s = .next t → (∀ load, i ≠ .stepSessionReset load) → s.sale.active = false →
    ∃ more : List Event, t.evt = s.evt ++ more ∧
      (.statusChanged .authorized ∈ more ∨ .statusChanged .filling ∈ more ∨
        t.sale.active = false ∧ t.counters = s.counters ∧ savesIn t.evt = savesIn s.evt)) ∧
  (∀ (s : State) (c1 c2 : Byte) (t1 t2 : StatusTable) (n1 n2 : Nat) (p1 p2 : PumpState),
    mapStatus s.cfg c1 t1 = some p1 → mapStatus s.cfg c2 t2 = some p2 → isTerminal p1 = true → isTerminal p2 = true →
    (statusItem c2 t2 n2 (statusItem c1 t1 n1 s)).counters = (statusItem c1 t1 n1 s).counters ∧
    savesIn (statusItem c2 t2 n2 (statusItem c1 t1 n1 s)).evt = savesIn (statusItem c1 t1 n1 s).evt ∧
    savesIn (statusItem c1 t1 n1 s).evt ≤ savesIn s.evt + 1)

/-- R232, R316, R317, R318, R351, R352 (decided by the spec, D11, D19, D23 and D34): a volume record of eight bytes is reported; it is remembered while a window is active; at or above an armed target STOP is issued through both
checks of the generic command path, once, and `stopSent` is set only when it went out: a refusal (no handshake; `CODE_RESUME` equal to `CODE_STOP` and the nozzle not known to be out) and a failed send leave it. A record of
another length only warns. -/
def Obligations.VolumeRecordIsRememberedAndStopsAtTarget : Prop :=
  ∀ (s : State) (o : Bool) (data : List Byte),
    (data.length ≠ 8 →
      exec (.subFilledVolumeAmount o data) s = .next
        { s with evt := s.evt ++ [.decodeWarning (.badSubRecordShape 0x02#8 data.length)] }) ∧
    (data.length = 8 →
      ∀ v a : Nat, v = decode4 (data.take 4) → a = decode4 (data.drop 4) →
      ∀ u : State,
        u = { s with
          evt := s.evt ++ [.volumeSample v a]
          sale := if s.cfg.trackerPresent = true ∧ s.sale.active = true then
              { s.sale with hasVolumeSample := true, lastVolumeCl := v, lastAmountC := a }
            else s.sale } →
        ((s.cfg.trackerPresent = false ∨ s.sale.presetTargetMl = none ∨ s.sale.stopSent = true ∨
            (∃ target, s.sale.presetTargetMl = some target ∧ 10 * v < target)) →
          exec (.subFilledVolumeAmount o data) s = .next u) ∧
        (∀ target : Nat, s.cfg.trackerPresent = true → s.sale.presetTargetMl = some target → s.sale.stopSent = false → target ≤ 10 * v →
          exec (.subFilledVolumeAmount o data) s = .next
            (if s.hs.ok = false ∧ s.cfg.codeStop ∉ s.cfg.readQueryCodes then
              { u with evt := u.evt ++ [.commandRefused .noHandshake] }
            else if s.cfg.codeResume = some s.cfg.codeStop ∧ s.nozzleOut ≠ some true then
              { u with evt := u.evt ++ [.commandRefused .nozzleStowed] }
            else if s.transportOpen = true ∧ s.txFaulted = false then
              { u with
                tx := s.tx ++ [encodeGeneric s.deviceAddr s.nozzle s.cfg.codeStop s.crcOrder]
                sale := { u.sale with stopSent := true } }
            else { u with evt := u.evt ++ [.sendFailed] })))

/-- R318: over any run of volume records, at most one STOP is appended to `tx`, and none once `stopSent` holds. -/
def Obligations.AtMostOneStopOverManySamples : Prop :=
  ∀ (totals : Bool) (now : Nat) (samples : List (List Byte)) (s : State),
    ∃ n : Nat, n ≤ (if s.sale.stopSent then 0 else 1) ∧
      (applyRecords totals now (samples.map fun d => ⟨0x02#8, d⟩) s).tx =
        s.tx ++ List.replicate n (encodeGeneric s.deviceAddr s.nozzle s.cfg.codeStop s.crcOrder)

/-! ## Sub-records and composite frames -/

/-- R231, R235 (decided by the spec, D10, D11 and D15): a one-byte status record is a status under `SUBREC_STATUS_TABLE`; of another length it warns; an unknown `trans` warns and its data are skipped. -/
def Obligations.StatusAndUnknownSubRecords : Prop :=
  ∀ (s : State) (now : Nat) (o : Bool) (t : Byte) (data : List Byte),
    (∀ code : Byte, data = [code] →
      exec (.subStatus now o data) s = .next (statusItem code s.cfg.subrecStatusTable now s)) ∧
    (data.length ≠ 1 →
      exec (.subStatus now o data) s = .next
        { s with evt := s.evt ++ [.decodeWarning (.badSubRecordShape 0x01#8 data.length)] }) ∧
    exec (.subUnknownTrans o t data) s = .next { s with evt := s.evt ++ [.decodeWarning (.unknownTrans t)] }

/-- R233, R234, R95, R144 (decided by the spec, D11, D28, D31 and D38; the polarity of bit 4 is a parameter, log entry 4): the price record writes the three nozzle registers and is reported; the totals record only reports; of
another length each warns. -/
def Obligations.NozzlePriceAndTotalsSubRecords : Prop :=
  ∀ s : State,
    (∀ p0 p1 p2 st : Byte,
      exec (.subNozzlePrice [p0, p1, p2, st]) s = .next
        { s with
          lastPriceRaw := some ((bcdPair p0 * 100 + bcdPair p1) * 100 + bcdPair p2)
          lastNozzle := some (st.extractLsb' 0 4)
          nozzleOut := some (st.getLsbD 4 == s.cfg.nozzleOutBit)
          evt := s.evt ++ [.nozzleChanged (st.getLsbD 4 == s.cfg.nozzleOutBit)] }) ∧
    (∀ data : List Byte, data.length ≠ 4 →
      exec (.subNozzlePrice data) s = .next
        { s with evt := s.evt ++ [.decodeWarning (.badSubRecordShape 0x03#8 data.length)] }) ∧
    (∀ (n : Byte) (a b c : List Byte), a.length = 5 → b.length = 5 → c.length = 5 →
      exec (.subTotals (n :: (a ++ b ++ c))) s = .next
        { s with evt := s.evt ++ [.totalsReport n (decode5 a) (decode5 b) (decode5 c)] }) ∧
    (∀ data : List Byte, data.length ≠ 16 →
      exec (.subTotals data) s = .next
        { s with evt := s.evt ++ [.decodeWarning (.badSubRecordShape 0x03#8 data.length)] })

/-- R225, R223, R224, R210 (that trace, acknowledge and length check come before the handler, in that order, is decided by the spec, D33): each of the sixteen composite frames, after acceptance, runs the loop of R225 over its
payload with a cursor that starts at 0; more turns than the payload has bytes change nothing. -/
def Obligations.CompositeFramesWalkByCursor : Prop :=
  ∀ (s : State) (now : Nat) (f : LongFrame), s.transportOpen = true →
    ∀ p ∈ [(0x31#8, false, Instr.rxComposite31 now f), (0x32#8, false, .rxComposite32 now f), (0x33#8, false, .rxComposite33 now f),
        (0x34#8, false, .rxComposite34 now f), (0x35#8, false, .rxComposite35 now f), (0x36#8, false, .rxComposite36 now f),
        (0x37#8, false, .rxComposite37 now f), (0x38#8, false, .rxComposite38 now f), (0x39#8, false, .rxComposite39 now f),
        (0x3A#8, false, .rxComposite3a now f), (0x3B#8, false, .rxComposite3b now f), (0x3C#8, false, .rxComposite3c now f),
        (0x3D#8, false, .rxComposite3d now f), (0x3E#8, false, .rxComposite3e now f), (0x3F#8, false, .rxComposite3f now f),
        (0x65#8, true, .rxCompositeTotals now f)],
      crcOk p.1 f s.crcOrder = true → ∀ turns : Nat, f.payload.length ≤ turns →
        exec p.2.2 s = .next (walkCursor p.2.1 now f.payload turns 0 (acceptLong p.1 f s))

/-- R219, R220 (the kinds of items are decided by the spec, D13; log entries 5 and 21): with `ALT_DECODE` supplied an AltStatus frame applies statuses, an AltVolume frame volumes, an AltTotals frame totals and an AltNozzle frame
nozzle prices, each list in order, and each warns where the decoder answers none; without it the four are refused. -/
def Obligations.AlternateFramesUseSuppliedDecoder : Prop :=
  ∀ (s : State) (now : Nat) (f : LongFrame), s.transportOpen = true →
    (∀ p ∈ [(0xD1#8, Instr.rxAltStatus now f), (0xD2#8, .rxAltVolume now f), (0xD3#8, .rxAltTotals now f), (0xD4#8, .rxAltNozzle now f)],
      crcOk p.1 f s.crcOrder = true →
        (s.cfg.altDecodeSupplied = true →
          (∀ items : List Item, altDecode p.1 f.payload = some items →
            exec p.2 s = .next (items.foldl (fun t item => applyItem now item t) (acceptLong p.1 f s))) ∧
          (altDecode p.1 f.payload = none →
            exec p.2 s = .next
              { acceptLong p.1 f s with
                evt := (acceptLong p.1 f s).evt ++ [.decodeWarning (.badPayloadShape f.payload.length)] })) ∧
        (s.cfg.altDecodeSupplied = false → exec p.2 s = .refused (.altFrameLayoutUnknown p.1))) ∧
    (s.cfg.altDecodeSupplied = true →
      (crcOk 0xD1#8 f s.crcOrder = true → ∀ l, Config.altStatus f.payload = some l →
        exec (.rxAltStatus now f) s = .next
          (l.foldl (fun t x => statusItem x.1 x.2 now t) (acceptLong 0xD1#8 f s))) ∧
      (crcOk 0xD2#8 f s.crcOrder = true → ∀ l, Config.altVolume f.payload = some l →
        exec (.rxAltVolume now f) s = .next
          (l.foldl (fun t x => applyVolume x.1 x.2 t) (acceptLong 0xD2#8 f s))) ∧
      (crcOk 0xD3#8 f s.crcOrder = true → ∀ l, Config.altTotals f.payload = some l →
        exec (.rxAltTotals now f) s = .next
          { acceptLong 0xD3#8 f s with
            evt := (acceptLong 0xD3#8 f s).evt ++ l.map fun x => .totalsReport x.1 x.2.1 x.2.2.1 x.2.2.2 }) ∧
      (crcOk 0xD4#8 f s.crcOrder = true → ∀ l, Config.altNozzle f.payload = some l →
        exec (.rxAltNozzle now f) s = .next
          (l.foldl (fun t x => applyNozzlePrice x.1 x.2.1 x.2.2 t) (acceptLong 0xD4#8 f s))))

/-! ## The Dispatch step and the step function -/

/-- R210: a `Dispatch` with the transport open runs the row that the decoder reads from the oldest queued frame, on the state after the pop; on an empty queue (not enabled, R62) it changes nothing (log entry 8). -/
def Obligations.DispatchRunsDecodedFrame : Prop :=
  (∀ (s : State) (now : Nat) (q : Frame) (rest : List Frame) (i : Instr),
    s.transportOpen = true → s.frameQ = q :: rest → decodeFrame now q.shape q.bytes = .ok i →
    exec (.stepDispatch now) s = exec i { s with frameQ := rest }) ∧
  (∀ (s : State) (now : Nat), s.frameQ = [] → exec (.stepDispatch now) s = .next s)

/-- R62, R210, R404: in a state of the invariant a `Dispatch` completes, removes exactly the oldest frame, leaves the receive buffer, and with the transport open reports the frame first, once; the alternate frames need their decoder. -/
def Obligations.DispatchTakesOldestFrameAndReportsIt : Prop :=
  ∀ (s : State) (now : Nat) (q : Frame) (rest : List Frame), Inv s → s.frameQ = q :: rest →
    (s.transportOpen = true → ∀ c : Byte, q.shape = .long → q.bytes[1]? = some c → 0xD1 ≤ c.toNat → c.toNat ≤ 0xD4 →
      s.cfg.altDecodeSupplied = true) →
    ∃ t : State, exec (.stepDispatch now) s = .next t ∧ t.frameQ = rest ∧ t.rxBuf = s.rxBuf ∧
      (s.transportOpen = true → ∃ (ok : Bool) (more : List Event),
        t.evt = s.evt ++ [.frameTrace q.bytes ok] ++ more ∧ ∀ e ∈ more, ∀ b k, e ≠ .frameTrace b k) ∧
      (s.transportOpen = false → t.evt = s.evt ++ [.softFail .decodeAfterClose])

/-- R7, R97 (the pending steps are this model's field, log entries 1 and 2): when the first line decodes to a well-formed instruction, the step is `exec` of that instruction with the line taken; a line that decodes to nothing is refused;
without a line nothing happens. -/
def Obligations.StepRunsDecodedLine : Prop :=
  (∀ (s : State) (line : List Nat) (rest : List (List Nat)) (i : Instr),
    s.script = line :: rest → decodeStep line = .ok i → i.wf = true →
    step s = exec i { s with script := rest }) ∧
  (∀ (s : State) (line : List Nat) (rest : List (List Nat)) (why : Reject),
    s.script = line :: rest → decodeStep line = .error why → step s = .refused (.badScriptLine why)) ∧
  (∀ s : State, s.script = [] → step s = .next s)

/-! ## Encodings (30_encoding.md) -/

/-- R81, R82, R84 to R91, R93, R97, R350: for every well-formed instruction of every format, under either CRC byte order, decoding its encoding gives it back, with every operand. The spec lays out the frames, the records and the
status codes and numbers the operations and the steps; the lines of words for operations and steps are this model's (DESIGN CHOICE, log entry 1), and so is the decoder of outbound frames, which no rule decodes (DESIGN CHOICE,
log entry 20). -/
def Obligations.DecodeOfEncodeIsIdentity : Prop :=
  ∀ (order : CrcOrder) (i : Instr), i.wf = true → decode (encode order i).1 (encode order i).2 = .ok i

/-- R88, R90, R91, R93, R97, R350: no two words of an inbound frame, a sub-record, a status code, an operation or a step stand for one instruction: what these decoders accept is well formed where the format restricts operands, and
encodes to the same word. The lines of words for operations and steps are this model's (DESIGN CHOICE, log entry 1). The outbound formats are not spoken of: their decoder is this model's (log entry 20) and accepts a preset volume
that no well-formed instruction carries. -/
def Obligations.EncodeOfDecodeIsIdentity : Prop :=
  (∀ (order : CrcOrder) (now : Nat) (bytes : List Byte) (i : Instr), decodeRxLong now bytes = .ok i →
    i.wf = true ∧ (encode order i).2 = .rxLong bytes) ∧
  (∀ (order : CrcOrder) (bytes : List Byte) (i : Instr), decodeRxShort bytes = .ok i →
    i.wf = true ∧ (encode order i).2 = .rxShort bytes) ∧
  (∀ (order : CrcOrder) (now : Nat) (o : Bool) (bytes : List Byte) (i : Instr), decodeSubRec now o bytes = .ok i →
    i.wf = true ∧ (encode order i).2 = .subRec bytes) ∧
  (∀ (order : CrcOrder) (now : Nat) (code : Byte),
    (decodeStatusBase now code).wf = true ∧ (encode order (decodeStatusBase now code)).2 = .statusBase code ∧
    (decodeStatusExt now code).wf = true ∧ (encode order (decodeStatusExt now code)).2 = .statusExt code) ∧
  (∀ (order : CrcOrder) (words : List Nat) (i : Instr), decodeHost words = .ok i → (encode order i).2 = .host words) ∧
  (∀ (order : CrcOrder) (words : List Nat) (i : Instr), decodeStep words = .ok i → (encode order i).2 = .step words)

/-- R81, R88, R89, R90, R91, R93: a few inbound words written out from the spec's layouts decode to what they stand for. R84, R87: so do two outbound frames, whose layout is the spec's and whose decoder is this model's (DESIGN CHOICE,
log entry 20). R97, R350: so do a line of an operation and one of a step, whose numbers are the spec's and whose form as words is this model's (DESIGN CHOICE, log entry 1). -/
def Obligations.WrittenOutWordsDecode : Prop :=
  decodeRxLong 0 [0x50#8, 0x30#8, 0x04#8, 0x15#8, 0xD2#8, 0x03#8, 0xFA#8] = .ok (.rxStatusReply 0 ⟨0x50#8, [0x04#8], 0x15#8, 0xD2#8⟩) ∧
  decodeRxLong 0 [0x50#8, 0x31#8, 0x01#8, 0x01#8, 0x02#8, 0x03#8, 0x04#8, 0x00#8, 0x12#8, 0x50#8, 0x11#8, 0x12#8, 0x5D#8, 0x03#8, 0xFA#8] =
    .ok (.rxComposite31 0 ⟨0x50#8, [0x01#8, 0x01#8, 0x02#8, 0x03#8, 0x04#8, 0x00#8, 0x12#8, 0x50#8, 0x11#8], 0x12#8, 0x5D#8⟩) ∧
  decodeRxShort [0x50#8, 0x70#8, 0xFA#8] = .ok .rxBusy ∧
  decodeSubRec 0 false [0x03#8, 0x04#8, 0x00#8, 0x12#8, 0x50#8, 0x11#8] = .ok (.subNozzlePrice [0x00#8, 0x12#8, 0x50#8, 0x11#8]) ∧
  decodeStatusExt 0 0x0B#8 = .stxSuspended 0 ∧
  decodeTxLong .loHi [0x50#8, 0x30#8, 0x01#8, 0x01#8, 0x06#8, 0x1F#8, 0x5E#8, 0x03#8, 0xFA#8] = .ok (.txGeneric 0x50#8 0x01#8 0x06#8) ∧
  decodeTxShort [0x50#8, 0xC0#8, 0xFA#8] = .ok .txMinAck ∧
  decodeHost [8, 0x50] = .ok (.hostTransportOpen 0x50#8) ∧
  decodeStep [0, 0xFA] = .ok (.stepRxByte 0xFA#8)

/-! ## Whole-machine claims -/

/-- R53, R322 (f): the state after reset is in the invariant. -/
def Obligations.ResetIsInInvariant : Prop := Inv State.reset

/-- R53, R322 (f): every step keeps the invariant. -/
def Obligations.EveryStepKeepsInvariant : Prop :=
  ∀ s t : State, Inv s → step s = .next t → Inv t

/-- R282, R41, R281 (a): only a session reset withdraws the handshake, and it is announced exactly once: the count of `handshake-acquired` events is kept equal to 1 while it holds and 0 while it does not. -/
def Obligations.HandshakeIsPermanentAndAnnouncedOnce : Prop :=
  (∀ (i : Instr) (s t : State), exec i s = .next t → (∀ load, i ≠ .stepSessionReset load) →
    (s.hs.ok = true → t.hs.ok = true) ∧ (s.hs.everOk = true → t.hs.everOk = true)) ∧
  (∀ (i : Instr) (s t : State), exec i s = .next t → handshakesIn s.evt = (if s.hs.ok then 1 else 0) →
    handshakesIn t.evt = (if t.hs.ok then 1 else 0))

/-- R267, R265: host operations, sends, timer steps, transport faults, bytes, Short frames, unknown commands and records without a status never change `pumpState`; any other instruction but a session reset that
changes it reports the new state. -/
def Obligations.PumpStateMovesOnlyByReportedStatus : Prop :=
  (∀ (i : Instr) (s t : State), carriesNoStatus i = true → exec i s = .next t → t.pumpState = s.pumpState) ∧
  (∀ (i : Instr) (s t : State), exec i s = .next t → (∀ load, i ≠ .stepSessionReset load) →
    ∃ more : List Event, t.evt = s.evt ++ more ∧ (t.pumpState = s.pumpState ∨ .statusChanged t.pumpState ∈ more))

/-- R283, R287, R400: from a state of the invariant in which the handshake does not hold, a step sends only polls, acks, read queries and, where it counts as one, totals requests. -/
def Obligations.OnlyReadQueriesLeaveBeforeHandshake : Prop :=
  ∀ s t : State, Inv s → s.hs.ok = false → step s = .next t →
    t.tx = [] ∨ ∃ sent : List (List Byte), t.tx = s.tx ++ sent ∧ ∀ bytes ∈ sent, allowedBeforeHandshake s bytes

/-- R15, R380, R399, R61, R62, R162, R220: a step from a state of the invariant faults exactly when a byte comes and the finite `RX_CAP` is reached, or the byte completes a frame and the finite `QUEUE_CAP` is reached (which test comes
first: DEDUCED, log entry 7); it is refused exactly when a CRC-valid alternate frame is dispatched over an open transport without `ALT_DECODE`, when a trailer byte comes where the other reading of R162 could cut a frame (U19; where that is:
DEDUCED, log entry 6), or when the line to run decodes to no step, which is this model's own stop and not the spec's (log entries 1 and 22). No other fault and no other refusal occurs. -/
def Obligations.StepsStopOnlyWhereTheSpecSaysSo : Prop :=
  ∀ s : State, Inv s →
    (∀ r : Fault, step s = .fault r ↔
      (r = .rxOverflow ∧ (∃ b : Byte, pendingIs s (.stepRxByte b)) ∧ ∃ c, s.cfg.rxCap = some c ∧ c ≤ s.rxBuf.length) ∨
      (r = .queueOverflow ∧ pendingIs s (.stepRxByte 0xFA#8) ∧ (∀ c, s.cfg.rxCap = some c → s.rxBuf.length < c) ∧
        (s.cfg.etxAdjacent = true ∧ 6 ≤ s.rxBuf.length ∧ s.rxBuf.getLast? = some 0x03#8 ∨
          s.rxBuf.length = 2 ∧ s.rxBuf.head? = some 0x50#8) ∧
        ∃ c, s.cfg.queueCap = some c ∧ c ≤ s.frameQ.length)) ∧
    (∀ r : Refusal, step s = .refused r ↔
      (∃ (line : List Nat) (rest : List (List Nat)) (why : Reject),
        r = .badScriptLine why ∧ s.script = line :: rest ∧ decodeStep line = .error why) ∨
      (r = .etxPlacementUnspecified ∧ s.cfg.etxAdjacent = false ∧ pendingIs s (.stepRxByte 0xFA#8) ∧
        (∀ c, s.cfg.rxCap = some c → s.rxBuf.length < c) ∧ 6 ≤ s.rxBuf.length ∧ 0x03#8 ∈ s.rxBuf) ∨
      (∃ (now : Nat) (c : Byte) (f : LongFrame) (rest : List Frame),
        r = .altFrameLayoutUnknown c ∧ c ∈ [0xD1#8, 0xD2#8, 0xD3#8, 0xD4#8] ∧ pendingIs s (.stepDispatch now) ∧
        s.frameQ = ⟨.long, longFrameBytes c f⟩ :: rest ∧ crcOk c f s.crcOrder = true ∧
        s.cfg.altDecodeSupplied = false ∧ s.transportOpen = true))

/-- R322 (b): the vehicle count is the loaded count plus the `counters-save` events since reset: it holds after reset and every instruction keeps it. -/
def Obligations.VehicleCountMatchesSaves : Prop :=
  CountersMatchSaves State.reset ∧
  ∀ (i : Instr) (s t : State), exec i s = .next t → CountersMatchSaves s → CountersMatchSaves t

/-- R200, R297: every element of `tx` is one of the frames the encoder builds: it holds after reset and every instruction keeps it. -/
def Obligations.OnlyBuiltFramesAreSent : Prop :=
  (∀ bytes ∈ State.reset.tx, outboundFrame bytes) ∧
  ∀ (i : Instr) (s t : State), exec i s = .next t →
    (∀ bytes ∈ s.tx, outboundFrame bytes) → ∀ bytes ∈ t.tx, outboundFrame bytes

/-- R63, R64, R420: the two streams only grow at their end, until a session reset empties them. -/
def Obligations.StreamsOnlyGrow : Prop :=
  ∀ (i : Instr) (s t : State), exec i s = .next t →
    (∃ load, i = .stepSessionReset load) ∧ t.tx = [] ∧ t.evt = [] ∨ s.tx <+: t.tx ∧ s.evt <+: t.evt

/-- R30 to R36, R61, R62, R75 (e), R79: outside a session reset each control register and buffer is changed only by the steps the rules name as its writers; the nozzle number, the parameters and the pending steps by none. -/
def Obligations.ControlRegistersAndBuffersHaveTheirWriters : Prop :=
  ∀ (i : Instr) (s t : State), exec i s = .next t → (∀ load, i ≠ .stepSessionReset load) →
    t.cfg = s.cfg ∧ t.nozzle = s.nozzle ∧ t.script = s.script ∧
    (t.crcOrder = s.crcOrder ∨ ∃ o, i = .hostSetCrcOrder o ∨ i = .stepHost (.setCrcOrder o)) ∧
    (t.autoAck = s.autoAck ∨ ∃ b, i = .hostSetAutoAck b ∨ i = .stepHost (.setAutoAck b)) ∧
    (t.autoPoll = s.autoPoll ∧ t.pollIntervalMs = s.pollIntervalMs ∨
      ∃ b n, i = .hostSetAutoPoll b n ∨ i = .stepHost (.setAutoPoll b n)) ∧
    (t.deviceAddr = s.deviceAddr ∨ ∃ a, i = .hostTransportOpen a ∨ i = .stepHost (.transportOpen a)) ∧
    (t.transportOpen = s.transportOpen ∨ (∃ a, i = .hostTransportOpen a ∨ i = .stepHost (.transportOpen a)) ∨
      i = .hostTransportClose ∨ i = .stepHost .transportClose) ∧
    (t.txFaulted = s.txFaulted ∨ (∃ a, i = .hostTransportOpen a ∨ i = .stepHost (.transportOpen a)) ∨ i = .stepTransportFault) ∧
    (t.rxBuf = s.rxBuf ∨ ∃ b, i = .stepRxByte b) ∧
    (t.frameQ = s.frameQ ∨ (∃ b, i = .stepRxByte b) ∨ ∃ now, i = .stepDispatch now)

/-- R32, R42, R440: no rule reads the timer's period or the handshake's timestamp: two states that differ in them alone step alike. -/
def Obligations.TimeIsNeverRead : Prop :=
  ∀ s t : State, sameButTime s t → sameOutcomeButTime (step s) (step t)
end

