-- ==== Sys2Proof/Laws/Decode.lean ====
section
/-! SUPPORT. One lemma per format: what its decoder gives on what its encoder writes, and what the catch-all rows are. -/

namespace Sys2Proof.Laws

open Sys2Proof Sys2Proof.Machine

/-! ## Inbound Long frames (R170) -/

/-- The fields of a frame that was laid out from them. -/
theorem splitLong_longFrameBytes (command : Byte) (f : LongFrame) (h : f.wf = true) :
    splitLong (longFrameBytes command f) = .ok (command, f) := by
  have hne : f.payload ≠ [] := by simpa [LongFrame.wf] using h
  have hpos : 0 < f.payload.length := List.length_pos_iff.2 hne
  have hl : (f.payload ++ [f.crc1, f.crc2, Config.etx, Config.trailer]).length = f.payload.length + 4 := by simp
  unfold longFrameBytes
  simp only [List.cons_append, List.nil_append, splitLong]
  rw [hl]
  simp only [Nat.add_sub_cancel, List.drop_left, List.take_left]
  rw [if_neg (by omega)]
  simp

/-- A frame that was laid out decodes to the row of its command byte. -/
theorem decodeRxLong_longFrameBytes (now : Nat) (command : Byte) (f : LongFrame) (h : f.wf = true) :
    decodeRxLong now (longFrameBytes command f) = .ok (longRow now command f) := by
  simp [decodeRxLong, splitLong_longFrameBytes command f h, Except.map]

/-- The catch-all row of R88. -/
theorem longRow_unknown (now : Nat) (c : Byte) (f : LongFrame) (h : knownCommand c = false) :
    longRow now c f = .rxUnknownCommand c f := by
  have all : ∀ c : Byte, knownCommand c = false → c ≠ 0x01#8 ∧ c ≠ 0x30#8 ∧ c ≠ 0x31#8 ∧ c ≠ 0x32#8 ∧ c ≠ 0x33#8 ∧
      c ≠ 0x34#8 ∧ c ≠ 0x35#8 ∧ c ≠ 0x36#8 ∧ c ≠ 0x37#8 ∧ c ≠ 0x38#8 ∧ c ≠ 0x39#8 ∧ c ≠ 0x3A#8 ∧ c ≠ 0x3B#8 ∧
      c ≠ 0x3C#8 ∧ c ≠ 0x3D#8 ∧ c ≠ 0x3E#8 ∧ c ≠ 0x3F#8 ∧ c ≠ 0x65#8 ∧ c ≠ 0xCD#8 ∧ c ≠ 0xD1#8 ∧ c ≠ 0xD2#8 ∧
      c ≠ 0xD3#8 ∧ c ≠ 0xD4#8 := by decide +kernel
  have := all c h
  unfold longRow
  split <;> simp_all

/-! ## Short frames, sub-records and status codes -/

/-- The catch-all row of R93. -/
theorem shortRow_unknown : ∀ c : Byte, knownShortCode c = false → shortRow c = .rxUnknownShort c := by decide +kernel

/-- A record that was laid out decodes to the row of its `trans` (R89, R90). -/
theorem decodeSubRec_subRecordBytes (now : Nat) (totals : Bool) (t : Byte) (data : List Byte) (h : recordDataWf data = true) :
    decodeSubRec now totals (subRecordBytes t data) = .ok (recordRow now totals ⟨t, data⟩) := by
  have h' : data.length ≤ 255 := by simpa [recordDataWf] using h
  have : data.length % 256 = data.length := by omega
  simp [subRecordBytes, decodeSubRec, this]

/-- What an unknown `trans` is not. -/
theorem knownTrans_false : ∀ t : Byte, knownTrans t = false → t ≠ 0x01#8 ∧ t ≠ 0x02#8 ∧ t ≠ 0x03#8 := by decide +kernel

/-- The catch-all row of R90. -/
theorem recordRow_unknown (now : Nat) (totals : Bool) (t : Byte) (data : List Byte) (h : knownTrans t = false) :
    recordRow now totals ⟨t, data⟩ = .subUnknownTrans totals t data := by
  have := knownTrans_false t h
  unfold recordRow
  simp only
  split <;> simp_all

/-- The catch-all row of the base table (R91). -/
theorem decodeStatusBase_unmapped (now : Nat) (c : Byte) (h : baseTableCode c = false) :
    decodeStatusBase now c = .stUnmapped now c := by
  have all : ∀ c : Byte, baseTableCode c = false →
      c ≠ 0x00#8 ∧ c ≠ 0x01#8 ∧ c ≠ 0x02#8 ∧ c ≠ 0x03#8 ∧ c ≠ 0x04#8 ∧ c ≠ 0x05#8 ∧ c ≠ 0x06#8 := by decide +kernel
  have := all c h
  unfold decodeStatusBase
  split <;> simp_all

/-- The catch-all row of the extended table (R91). -/
theorem decodeStatusExt_unmapped (now : Nat) (c : Byte) (h : extendedTableCode c = false) :
    decodeStatusExt now c = .stxUnmapped now c := by
  have all : ∀ c : Byte, extendedTableCode c = false → c ≠ 0x00#8 ∧ c ≠ 0x01#8 ∧ c ≠ 0x02#8 ∧ c ≠ 0x03#8 ∧
      c ≠ 0x04#8 ∧ c ≠ 0x05#8 ∧ c ≠ 0x06#8 ∧ c ≠ 0x07#8 ∧ c ≠ 0x0B#8 := by decide +kernel
  have := all c h
  unfold decodeStatusExt
  split <;> simp_all

/-! ## Lines of words (log entry 1) -/

/-- A byte's word reads back. -/
theorem byteWord_toNat (b : Byte) : byteWord b.toNat = .ok b := by
  simp [byteWord, b.isLt]

/-- An integer's two words read back. -/
theorem intWords_ofInt (v : Int) : ∃ sign magnitude, ofInt v = [sign, magnitude] ∧ intWords sign magnitude = .ok v := by
  cases v with
  | ofNat m => exact ⟨_, _, rfl, rfl⟩
  | negSucc m => exact ⟨_, _, rfl, rfl⟩

/-- An operation's words read back. -/
theorem decodeHostOp_encodeHostOp (op : HostOp) : ∃ n args, encodeHostOp op = n :: args ∧ decodeHostOp n args = .ok op := by
  cases op with
  | sendGeneric c => exact ⟨_, _, rfl, by simp [decodeHostOp, byteWord_toNat, Except.map]⟩
  | sendPresetVolume v =>
    obtain ⟨a, b, h, h'⟩ := intWords_ofInt v
    exact ⟨1, [a, b], by simp [encodeHostOp, h], by simp [decodeHostOp, h', Except.map]⟩
  | setCrcOrder o => cases o <;> exact ⟨_, _, rfl, rfl⟩
  | setAutoAck b => cases b <;> exact ⟨_, _, rfl, rfl⟩
  | setAutoPoll b n => cases b <;> exact ⟨_, _, rfl, rfl⟩
  | transportOpen a => exact ⟨_, _, rfl, by simp [decodeHostOp, byteWord_toNat, Except.map]⟩
  | intentHint s => cases s <;> exact ⟨_, _, rfl, rfl⟩
  | sendTotalsRequest => exact ⟨_, _, rfl, rfl⟩
  | sendMinPoll => exact ⟨_, _, rfl, rfl⟩
  | sendMinAck => exact ⟨_, _, rfl, rfl⟩
  | transportClose => exact ⟨_, _, rfl, rfl⟩

/-- Format HOST on an operation's words (R350). -/
theorem decodeHost_encodeHostOp (op : HostOp) : decodeHost (encodeHostOp op) = .ok (hostRow op) := by
  obtain ⟨n, args, h, h'⟩ := decodeHostOp_encodeHostOp op
  simp [h, decodeHost, h', Except.map]

/-- Format STEP on an operation's line (R97). -/
theorem decodeStep_host (op : HostOp) : decodeStep (3 :: encodeHostOp op) = .ok (.stepHost op) := by
  obtain ⟨n, args, h, h'⟩ := decodeHostOp_encodeHostOp op
  simp [h, decodeStep, h', Except.map]

end Sys2Proof.Laws
end

