-- ==== Sys2Proof/Laws/Frames.lean ====
section
/-! SUPPORT. One lemma per shared operation of the receive path: everything it can answer (R210, R215, R219, R225). -/

namespace Sys2Proof.Laws

open Sys2Proof Sys2Proof.Machine

/-! ## Frames already taken from the queue -/

/-- What a Long frame can do (R210): lost while closed, traced on a CRC failure, otherwise accepted and handled. -/
theorem receiveLong_cases {command : Byte} {f : LongFrame} {handler : State → Result} {s t : State}
    (h : receiveLong command f handler s = .next t) :
    s.transportOpen = false ∧ t = dropClosed s ∨
    s.transportOpen = true ∧ crcOk command f s.crcOrder = false ∧ t = emit (.frameTrace (longFrameBytes command f) false) s ∨
    s.transportOpen = true ∧ crcOk command f s.crcOrder = true ∧ handler (acceptLong command f s) = .next t := by
  unfold receiveLong at h
  cases ho : s.transportOpen <;> cases hc : crcOk command f s.crcOrder <;> simp [ho, hc] at h <;> simp [h]

/-- A CRC-valid Long frame with the transport open runs its handler. -/
theorem receiveLong_accepted {command : Byte} {f : LongFrame} {s : State} (handler : State → Result)
    (ho : s.transportOpen = true) (hc : crcOk command f s.crcOrder = true) :
    receiveLong command f handler s = handler (acceptLong command f s) := by
  simp [receiveLong, ho, hc]

/-- A Long frame with a CRC failure is traced. -/
theorem receiveLong_bad {command : Byte} {f : LongFrame} {s : State} (handler : State → Result)
    (ho : s.transportOpen = true) (hc : crcOk command f s.crcOrder = false) :
    receiveLong command f handler s = .next (emit (.frameTrace (longFrameBytes command f) false) s) := by
  simp [receiveLong, ho, hc]

/-- A Long frame while the transport is closed is lost. -/
theorem receiveLong_closed {command : Byte} {f : LongFrame} {s : State} (handler : State → Result)
    (ho : s.transportOpen = false) : receiveLong command f handler s = .next (dropClosed s) := by
  simp [receiveLong, ho]

/-- A Short frame with the transport open. -/
theorem receiveShort_open {code : Byte} {s : State} (handler : State → State) (ho : s.transportOpen = true) :
    receiveShort code handler s = .next (handler (emit (.frameTrace (shortFrameBytes code) true) s)) := by
  simp [receiveShort, ho]

/-- A Short frame while the transport is closed is lost. -/
theorem receiveShort_closed {code : Byte} {s : State} (handler : State → State) (ho : s.transportOpen = false) :
    receiveShort code handler s = .next (dropClosed s) := by
  simp [receiveShort, ho]

/-- The auto-acknowledge (R296): nothing, or one acknowledge or one report. -/
theorem autoAcknowledge_cases (s : State) :
    s.autoAck = false ∧ autoAcknowledge s = s ∨ s.autoAck = true ∧ autoAcknowledge s = (send minAck s).2 := by
  cases h : s.autoAck <;> simp [autoAcknowledge, h]

/-- A status frame's payload (R215): one byte is a status, anything else a warning. -/
theorem statusReply_cases (payload : List Byte) (table : StatusTable) (now : Nat) (s : State) :
    (∃ code, payload = [code] ∧ statusReply payload table now s = statusItem code table now s) ∨
    payload.length ≠ 1 ∧ statusReply payload table now s = warn (.badPayloadShape payload.length) s := by
  match payload with
  | [code] => exact .inl ⟨code, rfl, rfl⟩
  | [] => exact .inr ⟨by simp, rfl⟩
  | _ :: _ :: _ => exact .inr ⟨by simp, rfl⟩

/-- An alternate frame (R219, R220): refused without `ALT_DECODE`, otherwise its items or a warning. -/
theorem altFrame_cases (command : Byte) (payload : List Byte) (now : Nat) (s : State) :
    s.cfg.altDecodeSupplied = false ∧ altFrame command payload now s = .refused (.altFrameLayoutUnknown command) ∨
    s.cfg.altDecodeSupplied = true ∧
      ((∃ items, altDecode command payload = some items ∧ altFrame command payload now s = .next (applyItems now items s)) ∨
        altDecode command payload = none ∧ altFrame command payload now s = .next (warn (.badPayloadShape payload.length) s)) := by
  unfold altFrame
  cases ha : s.cfg.altDecodeSupplied <;> cases hd : altDecode command payload <;> simp

/-- The items of an alternate frame are of its command's kind (R219 (b)). -/
theorem altDecode_kinds (payload : List Byte) {items : List Item} {item : Item} (hm : item ∈ items) :
    (altDecode 0xD1#8 payload = some items → ∃ code table, item = .status code table) ∧
    (altDecode 0xD2#8 payload = some items → ∃ volumeCl amountC, item = .volume volumeCl amountC) ∧
    (altDecode 0xD3#8 payload = some items → ∃ nozzle t0 t1 t2, item = .totals nozzle t0 t1 t2) ∧
    (altDecode 0xD4#8 payload = some items → ∃ priceRaw nozzle out, item = .nozzlePrice priceRaw nozzle out) := by
  refine ⟨?_, ?_, ?_, ?_⟩ <;> intro h <;> obtain ⟨l, -, rfl⟩ := Option.map_eq_some_iff.1 h <;>
    obtain ⟨x, -, rfl⟩ := List.mem_map.1 hm
  · exact ⟨_, _, rfl⟩
  · exact ⟨_, _, rfl⟩
  · exact ⟨_, _, _, _, rfl⟩
  · exact ⟨_, _, _, rfl⟩

/-! ## The walk over a composite payload (R225) -/

/-- A record takes its two header bytes and its data off the payload. -/
theorem splitRecordsFrom_record (n pos : Nat) (t length : Byte) (data rest : List Byte) (h : data.length = length.toNat) :
    splitRecordsFrom (n + 1) pos (t :: length :: (data ++ rest)) =
      (⟨t, data⟩ :: (splitRecordsFrom n (pos + 2 + length.toNat) rest).1, (splitRecordsFrom n (pos + 2 + length.toNat) rest).2) := by
  rw [splitRecordsFrom]
  rw [if_neg (by simp [h])]
  simp [← h]

/-- A record whose length byte reaches past the payload ends the walk. -/
theorem splitRecordsFrom_overrun (n pos : Nat) (t length : Byte) (rest : List Byte) (h : rest.length < length.toNat) :
    splitRecordsFrom (n + 1) pos (t :: length :: rest) = ([], some pos) := by
  rw [splitRecordsFrom, if_pos h]

/-- A single byte left over ends the walk. -/
theorem splitRecordsFrom_stray (n pos : Nat) (t : Byte) : splitRecordsFrom (n + 1) pos [t] = ([], some pos) := rfl

/-- Records are applied in payload order. -/
theorem applyRecords_cons (totals : Bool) (now : Nat) (r : SubRecord) (rs : List SubRecord) (s : State) :
    applyRecords totals now (r :: rs) s = applyRecords totals now rs (applyRecord totals now r s) := rfl

/-! ## The steps -/

/-- A frame just popped (R210). -/
theorem dispatchFrame_open {now : Nat} {q : Frame} {i : Instr} {s : State} (ho : s.transportOpen = true)
    (h : decodeFrame now q.shape q.bytes = .ok i) : dispatchFrame now q s = runFrame i s := by
  simp [dispatchFrame, ho, h]

/-- A frame popped while the transport is closed (R211). -/
theorem dispatchFrame_closed {now : Nat} {q : Frame} {s : State} (ho : s.transportOpen = false) :
    dispatchFrame now q s = .next (dropClosed s) := by
  simp [dispatchFrame, ho]

/-- A `Dispatch` on a queue that is not empty runs the oldest frame on the state without it. -/
theorem execStepDispatch_cons {now : Nat} {q : Frame} {rest : List Frame} {s : State} (h : s.frameQ = q :: rest) :
    execStepDispatch now s = dispatchFrame now q { s with frameQ := rest } := by
  simp [execStepDispatch, h]

end Sys2Proof.Laws
end

