-- ==== Sys2Proof/Laws/State.lean ====
section
/-! SUPPORT. Field lemmas of the named updates of the state: one per field per update, true by rfl. -/

namespace Sys2Proof.Machine

open Sys2Proof

/-! `emit` -/

@[simp] theorem emit_cfg (e : Event) (s : State) : (emit e s).cfg = s.cfg := rfl

@[simp] theorem emit_crcOrder (e : Event) (s : State) : (emit e s).crcOrder = s.crcOrder := rfl

@[simp] theorem emit_autoAck (e : Event) (s : State) : (emit e s).autoAck = s.autoAck := rfl

@[simp] theorem emit_autoPoll (e : Event) (s : State) : (emit e s).autoPoll = s.autoPoll := rfl

@[simp] theorem emit_pollIntervalMs (e : Event) (s : State) : (emit e s).pollIntervalMs = s.pollIntervalMs := rfl

@[simp] theorem emit_deviceAddr (e : Event) (s : State) : (emit e s).deviceAddr = s.deviceAddr := rfl

@[simp] theorem emit_nozzle (e : Event) (s : State) : (emit e s).nozzle = s.nozzle := rfl

@[simp] theorem emit_transportOpen (e : Event) (s : State) : (emit e s).transportOpen = s.transportOpen := rfl

@[simp] theorem emit_txFaulted (e : Event) (s : State) : (emit e s).txFaulted = s.txFaulted := rfl

@[simp] theorem emit_pumpState (e : Event) (s : State) : (emit e s).pumpState = s.pumpState := rfl

@[simp] theorem emit_hintState (e : Event) (s : State) : (emit e s).hintState = s.hintState := rfl

@[simp] theorem emit_hs (e : Event) (s : State) : (emit e s).hs = s.hs := rfl

@[simp] theorem emit_nozzleOut (e : Event) (s : State) : (emit e s).nozzleOut = s.nozzleOut := rfl

@[simp] theorem emit_lastNozzle (e : Event) (s : State) : (emit e s).lastNozzle = s.lastNozzle := rfl

@[simp] theorem emit_lastPriceRaw (e : Event) (s : State) : (emit e s).lastPriceRaw = s.lastPriceRaw := rfl

@[simp] theorem emit_sale (e : Event) (s : State) : (emit e s).sale = s.sale := rfl

@[simp] theorem emit_counters (e : Event) (s : State) : (emit e s).counters = s.counters := rfl

@[simp] theorem emit_rxBuf (e : Event) (s : State) : (emit e s).rxBuf = s.rxBuf := rfl

@[simp] theorem emit_frameQ (e : Event) (s : State) : (emit e s).frameQ = s.frameQ := rfl

@[simp] theorem emit_tx (e : Event) (s : State) : (emit e s).tx = s.tx := rfl

@[simp] theorem emit_evt (e : Event) (s : State) : (emit e s).evt = s.evt ++ [e] := rfl

@[simp] theorem emit_script (e : Event) (s : State) : (emit e s).script = s.script := rfl

/-! `dropClosed` -/

@[simp] theorem dropClosed_cfg (s : State) : (dropClosed s).cfg = s.cfg := rfl

@[simp] theorem dropClosed_crcOrder (s : State) : (dropClosed s).crcOrder = s.crcOrder := rfl

@[simp] theorem dropClosed_autoAck (s : State) : (dropClosed s).autoAck = s.autoAck := rfl

@[simp] theorem dropClosed_autoPoll (s : State) : (dropClosed s).autoPoll = s.autoPoll := rfl

@[simp] theorem dropClosed_pollIntervalMs (s : State) : (dropClosed s).pollIntervalMs = s.pollIntervalMs := rfl

@[simp] theorem dropClosed_deviceAddr (s : State) : (dropClosed s).deviceAddr = s.deviceAddr := rfl

@[simp] theorem dropClosed_nozzle (s : State) : (dropClosed s).nozzle = s.nozzle := rfl

@[simp] theorem dropClosed_transportOpen (s : State) : (dropClosed s).transportOpen = s.transportOpen := rfl

@[simp] theorem dropClosed_txFaulted (s : State) : (dropClosed s).txFaulted = s.txFaulted := rfl

@[simp] theorem dropClosed_pumpState (s : State) : (dropClosed s).pumpState = s.pumpState := rfl

@[simp] theorem dropClosed_hintState (s : State) : (dropClosed s).hintState = s.hintState := rfl

@[simp] theorem dropClosed_hs (s : State) : (dropClosed s).hs = s.hs := rfl

@[simp] theorem dropClosed_nozzleOut (s : State) : (dropClosed s).nozzleOut = s.nozzleOut := rfl

@[simp] theorem dropClosed_lastNozzle (s : State) : (dropClosed s).lastNozzle = s.lastNozzle := rfl

@[simp] theorem dropClosed_lastPriceRaw (s : State) : (dropClosed s).lastPriceRaw = s.lastPriceRaw := rfl

@[simp] theorem dropClosed_sale (s : State) : (dropClosed s).sale = s.sale := rfl

@[simp] theorem dropClosed_counters (s : State) : (dropClosed s).counters = s.counters := rfl

@[simp] theorem dropClosed_rxBuf (s : State) : (dropClosed s).rxBuf = s.rxBuf := rfl

@[simp] theorem dropClosed_frameQ (s : State) : (dropClosed s).frameQ = s.frameQ := rfl

@[simp] theorem dropClosed_tx (s : State) : (dropClosed s).tx = s.tx := rfl

@[simp] theorem dropClosed_evt (s : State) : (dropClosed s).evt = s.evt ++ [.softFail .decodeAfterClose] := rfl

@[simp] theorem dropClosed_script (s : State) : (dropClosed s).script = s.script := rfl

/-! `pushLine` -/

@[simp] theorem pushLine_cfg (line : List Nat) (s : State) : (pushLine line s).cfg = s.cfg := rfl

@[simp] theorem pushLine_crcOrder (line : List Nat) (s : State) : (pushLine line s).crcOrder = s.crcOrder := rfl

@[simp] theorem pushLine_autoAck (line : List Nat) (s : State) : (pushLine line s).autoAck = s.autoAck := rfl

@[simp] theorem pushLine_autoPoll (line : List Nat) (s : State) : (pushLine line s).autoPoll = s.autoPoll := rfl

@[simp] theorem pushLine_pollIntervalMs (line : List Nat) (s : State) : (pushLine line s).pollIntervalMs = s.pollIntervalMs := rfl

@[simp] theorem pushLine_deviceAddr (line : List Nat) (s : State) : (pushLine line s).deviceAddr = s.deviceAddr := rfl

@[simp] theorem pushLine_nozzle (line : List Nat) (s : State) : (pushLine line s).nozzle = s.nozzle := rfl

@[simp] theorem pushLine_transportOpen (line : List Nat) (s : State) : (pushLine line s).transportOpen = s.transportOpen := rfl

@[simp] theorem pushLine_txFaulted (line : List Nat) (s : State) : (pushLine line s).txFaulted = s.txFaulted := rfl

@[simp] theorem pushLine_pumpState (line : List Nat) (s : State) : (pushLine line s).pumpState = s.pumpState := rfl

@[simp] theorem pushLine_hintState (line : List Nat) (s : State) : (pushLine line s).hintState = s.hintState := rfl

@[simp] theorem pushLine_hs (line : List Nat) (s : State) : (pushLine line s).hs = s.hs := rfl

@[simp] theorem pushLine_nozzleOut (line : List Nat) (s : State) : (pushLine line s).nozzleOut = s.nozzleOut := rfl

@[simp] theorem pushLine_lastNozzle (line : List Nat) (s : State) : (pushLine line s).lastNozzle = s.lastNozzle := rfl

@[simp] theorem pushLine_lastPriceRaw (line : List Nat) (s : State) : (pushLine line s).lastPriceRaw = s.lastPriceRaw := rfl

@[simp] theorem pushLine_sale (line : List Nat) (s : State) : (pushLine line s).sale = s.sale := rfl

@[simp] theorem pushLine_counters (line : List Nat) (s : State) : (pushLine line s).counters = s.counters := rfl

@[simp] theorem pushLine_rxBuf (line : List Nat) (s : State) : (pushLine line s).rxBuf = s.rxBuf := rfl

@[simp] theorem pushLine_frameQ (line : List Nat) (s : State) : (pushLine line s).frameQ = s.frameQ := rfl

@[simp] theorem pushLine_tx (line : List Nat) (s : State) : (pushLine line s).tx = s.tx := rfl

@[simp] theorem pushLine_evt (line : List Nat) (s : State) : (pushLine line s).evt = s.evt := rfl

@[simp] theorem pushLine_script (line : List Nat) (s : State) : (pushLine line s).script = line :: s.script := rfl

/-! `clearSaleMemory` -/

@[simp] theorem clearSaleMemory_cfg (s : State) : (clearSaleMemory s).cfg = s.cfg := rfl

@[simp] theorem clearSaleMemory_crcOrder (s : State) : (clearSaleMemory s).crcOrder = s.crcOrder := rfl

@[simp] theorem clearSaleMemory_autoAck (s : State) : (clearSaleMemory s).autoAck = s.autoAck := rfl

@[simp] theorem clearSaleMemory_autoPoll (s : State) : (clearSaleMemory s).autoPoll = s.autoPoll := rfl

@[simp] theorem clearSaleMemory_pollIntervalMs (s : State) : (clearSaleMemory s).pollIntervalMs = s.pollIntervalMs := rfl

@[simp] theorem clearSaleMemory_deviceAddr (s : State) : (clearSaleMemory s).deviceAddr = s.deviceAddr := rfl

@[simp] theorem clearSaleMemory_nozzle (s : State) : (clearSaleMemory s).nozzle = s.nozzle := rfl

@[simp] theorem clearSaleMemory_transportOpen (s : State) : (clearSaleMemory s).transportOpen = s.transportOpen := rfl

@[simp] theorem clearSaleMemory_txFaulted (s : State) : (clearSaleMemory s).txFaulted = s.txFaulted := rfl

@[simp] theorem clearSaleMemory_pumpState (s : State) : (clearSaleMemory s).pumpState = s.pumpState := rfl

@[simp] theorem clearSaleMemory_hintState (s : State) : (clearSaleMemory s).hintState = s.hintState := rfl

@[simp] theorem clearSaleMemory_hs (s : State) : (clearSaleMemory s).hs = s.hs := rfl

@[simp] theorem clearSaleMemory_nozzleOut (s : State) : (clearSaleMemory s).nozzleOut = s.nozzleOut := rfl

@[simp] theorem clearSaleMemory_lastNozzle (s : State) : (clearSaleMemory s).lastNozzle = s.lastNozzle := rfl

@[simp] theorem clearSaleMemory_lastPriceRaw (s : State) : (clearSaleMemory s).lastPriceRaw = s.lastPriceRaw := rfl

@[simp] theorem clearSaleMemory_sale (s : State) : (clearSaleMemory s).sale = { s.sale with hasVolumeSample := false, lastVolumeCl := 0, lastAmountC := 0, stopSent := false, cd3SentThisSale := false } := rfl

@[simp] theorem clearSaleMemory_counters (s : State) : (clearSaleMemory s).counters = s.counters := rfl

@[simp] theorem clearSaleMemory_rxBuf (s : State) : (clearSaleMemory s).rxBuf = s.rxBuf := rfl

@[simp] theorem clearSaleMemory_frameQ (s : State) : (clearSaleMemory s).frameQ = s.frameQ := rfl

@[simp] theorem clearSaleMemory_tx (s : State) : (clearSaleMemory s).tx = s.tx := rfl

@[simp] theorem clearSaleMemory_evt (s : State) : (clearSaleMemory s).evt = s.evt := rfl

@[simp] theorem clearSaleMemory_script (s : State) : (clearSaleMemory s).script = s.script := rfl

/-! `openWindow` -/

@[simp] theorem openWindow_cfg (s : State) : (openWindow s).cfg = s.cfg := rfl

@[simp] theorem openWindow_crcOrder (s : State) : (openWindow s).crcOrder = s.crcOrder := rfl

@[simp] theorem openWindow_autoAck (s : State) : (openWindow s).autoAck = s.autoAck := rfl

@[simp] theorem openWindow_autoPoll (s : State) : (openWindow s).autoPoll = s.autoPoll := rfl

@[simp] theorem openWindow_pollIntervalMs (s : State) : (openWindow s).pollIntervalMs = s.pollIntervalMs := rfl

@[simp] theorem openWindow_deviceAddr (s : State) : (openWindow s).deviceAddr = s.deviceAddr := rfl

@[simp] theorem openWindow_nozzle (s : State) : (openWindow s).nozzle = s.nozzle := rfl

@[simp] theorem openWindow_transportOpen (s : State) : (openWindow s).transportOpen = s.transportOpen := rfl

@[simp] theorem openWindow_txFaulted (s : State) : (openWindow s).txFaulted = s.txFaulted := rfl

@[simp] theorem openWindow_pumpState (s : State) : (openWindow s).pumpState = s.pumpState := rfl

@[simp] theorem openWindow_hintState (s : State) : (openWindow s).hintState = s.hintState := rfl

@[simp] theorem openWindow_hs (s : State) : (openWindow s).hs = s.hs := rfl

@[simp] theorem openWindow_nozzleOut (s : State) : (openWindow s).nozzleOut = s.nozzleOut := rfl

@[simp] theorem openWindow_lastNozzle (s : State) : (openWindow s).lastNozzle = s.lastNozzle := rfl

@[simp] theorem openWindow_lastPriceRaw (s : State) : (openWindow s).lastPriceRaw = s.lastPriceRaw := rfl

@[simp] theorem openWindow_sale (s : State) : (openWindow s).sale = { s.sale with active := true, hasVolumeSample := false, lastVolumeCl := 0, lastAmountC := 0, stopSent := false, countersBumped := false } := rfl

@[simp] theorem openWindow_counters (s : State) : (openWindow s).counters = s.counters := rfl

@[simp] theorem openWindow_rxBuf (s : State) : (openWindow s).rxBuf = s.rxBuf := rfl

@[simp] theorem openWindow_frameQ (s : State) : (openWindow s).frameQ = s.frameQ := rfl

@[simp] theorem openWindow_tx (s : State) : (openWindow s).tx = s.tx := rfl

@[simp] theorem openWindow_evt (s : State) : (openWindow s).evt = s.evt ++ [.saleOpened] := rfl

@[simp] theorem openWindow_script (s : State) : (openWindow s).script = s.script := rfl

/-! `armPreset` -/

@[simp] theorem armPreset_cfg (v : Int) (s : State) : (armPreset v s).cfg = s.cfg := rfl

@[simp] theorem armPreset_crcOrder (v : Int) (s : State) : (armPreset v s).crcOrder = s.crcOrder := rfl

@[simp] theorem armPreset_autoAck (v : Int) (s : State) : (armPreset v s).autoAck = s.autoAck := rfl

@[simp] theorem armPreset_autoPoll (v : Int) (s : State) : (armPreset v s).autoPoll = s.autoPoll := rfl

@[simp] theorem armPreset_pollIntervalMs (v : Int) (s : State) : (armPreset v s).pollIntervalMs = s.pollIntervalMs := rfl

@[simp] theorem armPreset_deviceAddr (v : Int) (s : State) : (armPreset v s).deviceAddr = s.deviceAddr := rfl

@[simp] theorem armPreset_nozzle (v : Int) (s : State) : (armPreset v s).nozzle = s.nozzle := rfl

@[simp] theorem armPreset_transportOpen (v : Int) (s : State) : (armPreset v s).transportOpen = s.transportOpen := rfl

@[simp] theorem armPreset_txFaulted (v : Int) (s : State) : (armPreset v s).txFaulted = s.txFaulted := rfl

@[simp] theorem armPreset_pumpState (v : Int) (s : State) : (armPreset v s).pumpState = s.pumpState := rfl

@[simp] theorem armPreset_hintState (v : Int) (s : State) : (armPreset v s).hintState = s.hintState := rfl

@[simp] theorem armPreset_hs (v : Int) (s : State) : (armPreset v s).hs = s.hs := rfl

@[simp] theorem armPreset_nozzleOut (v : Int) (s : State) : (armPreset v s).nozzleOut = s.nozzleOut := rfl

@[simp] theorem armPreset_lastNozzle (v : Int) (s : State) : (armPreset v s).lastNozzle = s.lastNozzle := rfl

@[simp] theorem armPreset_lastPriceRaw (v : Int) (s : State) : (armPreset v s).lastPriceRaw = s.lastPriceRaw := rfl

@[simp] theorem armPreset_sale (v : Int) (s : State) : (armPreset v s).sale = { s.sale with cd3SentThisSale := true, presetTargetMl := some (10 * presetClamp v), authorizePending := true } := rfl

@[simp] theorem armPreset_counters (v : Int) (s : State) : (armPreset v s).counters = s.counters := rfl

@[simp] theorem armPreset_rxBuf (v : Int) (s : State) : (armPreset v s).rxBuf = s.rxBuf := rfl

@[simp] theorem armPreset_frameQ (v : Int) (s : State) : (armPreset v s).frameQ = s.frameQ := rfl

@[simp] theorem armPreset_tx (v : Int) (s : State) : (armPreset v s).tx = s.tx := rfl

@[simp] theorem armPreset_evt (v : Int) (s : State) : (armPreset v s).evt = s.evt := rfl

@[simp] theorem armPreset_script (v : Int) (s : State) : (armPreset v s).script = s.script := rfl

/-! `applyNozzlePrice` -/

@[simp] theorem applyNozzlePrice_cfg (p : Nat) (n : Nibble) (o : Bool) (s : State) : (applyNozzlePrice p n o s).cfg = s.cfg := rfl

@[simp] theorem applyNozzlePrice_crcOrder (p : Nat) (n : Nibble) (o : Bool) (s : State) : (applyNozzlePrice p n o s).crcOrder = s.crcOrder := rfl

@[simp] theorem applyNozzlePrice_autoAck (p : Nat) (n : Nibble) (o : Bool) (s : State) : (applyNozzlePrice p n o s).autoAck = s.autoAck := rfl

@[simp] theorem applyNozzlePrice_autoPoll (p : Nat) (n : Nibble) (o : Bool) (s : State) : (applyNozzlePrice p n o s).autoPoll = s.autoPoll := rfl

@[simp] theorem applyNozzlePrice_pollIntervalMs (p : Nat) (n : Nibble) (o : Bool) (s : State) : (applyNozzlePrice p n o s).pollIntervalMs = s.pollIntervalMs := rfl

@[simp] theorem applyNozzlePrice_deviceAddr (p : Nat) (n : Nibble) (o : Bool) (s : State) : (applyNozzlePrice p n o s).deviceAddr = s.deviceAddr := rfl

@[simp] theorem applyNozzlePrice_nozzle (p : Nat) (n : Nibble) (o : Bool) (s : State) : (applyNozzlePrice p n o s).nozzle = s.nozzle := rfl

@[simp] theorem applyNozzlePrice_transportOpen (p : Nat) (n : Nibble) (o : Bool) (s : State) : (applyNozzlePrice p n o s).transportOpen = s.transportOpen := rfl

@[simp] theorem applyNozzlePrice_txFaulted (p : Nat) (n : Nibble) (o : Bool) (s : State) : (applyNozzlePrice p n o s).txFaulted = s.txFaulted := rfl

@[simp] theorem applyNozzlePrice_pumpState (p : Nat) (n : Nibble) (o : Bool) (s : State) : (applyNozzlePrice p n o s).pumpState = s.pumpState := rfl

@[simp] theorem applyNozzlePrice_hintState (p : Nat) (n : Nibble) (o : Bool) (s : State) : (applyNozzlePrice p n o s).hintState = s.hintState := rfl

@[simp] theorem applyNozzlePrice_hs (p : Nat) (n : Nibble) (o : Bool) (s : State) : (applyNozzlePrice p n o s).hs = s.hs := rfl

@[simp] theorem applyNozzlePrice_nozzleOut (p : Nat) (n : Nibble) (o : Bool) (s : State) : (applyNozzlePrice p n o s).nozzleOut = some o := rfl

@[simp] theorem applyNozzlePrice_lastNozzle (p : Nat) (n : Nibble) (o : Bool) (s : State) : (applyNozzlePrice p n o s).lastNozzle = some n := rfl

@[simp] theorem applyNozzlePrice_lastPriceRaw (p : Nat) (n : Nibble) (o : Bool) (s : State) : (applyNozzlePrice p n o s).lastPriceRaw = some p := rfl

@[simp] theorem applyNozzlePrice_sale (p : Nat) (n : Nibble) (o : Bool) (s : State) : (applyNozzlePrice p n o s).sale = s.sale := rfl

@[simp] theorem applyNozzlePrice_counters (p : Nat) (n : Nibble) (o : Bool) (s : State) : (applyNozzlePrice p n o s).counters = s.counters := rfl

@[simp] theorem applyNozzlePrice_rxBuf (p : Nat) (n : Nibble) (o : Bool) (s : State) : (applyNozzlePrice p n o s).rxBuf = s.rxBuf := rfl

@[simp] theorem applyNozzlePrice_frameQ (p : Nat) (n : Nibble) (o : Bool) (s : State) : (applyNozzlePrice p n o s).frameQ = s.frameQ := rfl

@[simp] theorem applyNozzlePrice_tx (p : Nat) (n : Nibble) (o : Bool) (s : State) : (applyNozzlePrice p n o s).tx = s.tx := rfl

@[simp] theorem applyNozzlePrice_evt (p : Nat) (n : Nibble) (o : Bool) (s : State) : (applyNozzlePrice p n o s).evt = s.evt ++ [.nozzleChanged o] := rfl

@[simp] theorem applyNozzlePrice_script (p : Nat) (n : Nibble) (o : Bool) (s : State) : (applyNozzlePrice p n o s).script = s.script := rfl

/-! `bumpCounters` -/

@[simp] theorem bumpCounters_cfg (s : State) : (bumpCounters s).cfg = s.cfg := rfl

@[simp] theorem bumpCounters_crcOrder (s : State) : (bumpCounters s).crcOrder = s.crcOrder := rfl

@[simp] theorem bumpCounters_autoAck (s : State) : (bumpCounters s).autoAck = s.autoAck := rfl

@[simp] theorem bumpCounters_autoPoll (s : State) : (bumpCounters s).autoPoll = s.autoPoll := rfl

@[simp] theorem bumpCounters_pollIntervalMs (s : State) : (bumpCounters s).pollIntervalMs = s.pollIntervalMs := rfl

@[simp] theorem bumpCounters_deviceAddr (s : State) : (bumpCounters s).deviceAddr = s.deviceAddr := rfl

@[simp] theorem bumpCounters_nozzle (s : State) : (bumpCounters s).nozzle = s.nozzle := rfl

@[simp] theorem bumpCounters_transportOpen (s : State) : (bumpCounters s).transportOpen = s.transportOpen := rfl

@[simp] theorem bumpCounters_txFaulted (s : State) : (bumpCounters s).txFaulted = s.txFaulted := rfl

@[simp] theorem bumpCounters_pumpState (s : State) : (bumpCounters s).pumpState = s.pumpState := rfl

@[simp] theorem bumpCounters_hintState (s : State) : (bumpCounters s).hintState = s.hintState := rfl

@[simp] theorem bumpCounters_hs (s : State) : (bumpCounters s).hs = s.hs := rfl

@[simp] theorem bumpCounters_nozzleOut (s : State) : (bumpCounters s).nozzleOut = s.nozzleOut := rfl

@[simp] theorem bumpCounters_lastNozzle (s : State) : (bumpCounters s).lastNozzle = s.lastNozzle := rfl

@[simp] theorem bumpCounters_lastPriceRaw (s : State) : (bumpCounters s).lastPriceRaw = s.lastPriceRaw := rfl

@[simp] theorem bumpCounters_sale (s : State) : (bumpCounters s).sale = { s.sale with countersBumped := true } := rfl

@[simp] theorem bumpCounters_counters (s : State) : (bumpCounters s).counters = ⟨s.counters.vehicleCount + 1, s.counters.totalCl + s.sale.lastVolumeCl⟩ := rfl

@[simp] theorem bumpCounters_rxBuf (s : State) : (bumpCounters s).rxBuf = s.rxBuf := rfl

@[simp] theorem bumpCounters_frameQ (s : State) : (bumpCounters s).frameQ = s.frameQ := rfl

@[simp] theorem bumpCounters_tx (s : State) : (bumpCounters s).tx = s.tx := rfl

@[simp] theorem bumpCounters_evt (s : State) : (bumpCounters s).evt = s.evt ++ [.countersSave (s.counters.vehicleCount + 1) (s.counters.totalCl + s.sale.lastVolumeCl)] := rfl

@[simp] theorem bumpCounters_script (s : State) : (bumpCounters s).script = s.script := rfl

/-! `warn` is `emit`. -/

@[simp] theorem warn_eq_emit (w : Warning) (s : State) : warn w s = emit (.decodeWarning w) s := rfl

@[simp] theorem warnIf_none (s : State) : warnIf none s = s := rfl

@[simp] theorem warnIf_some (w : Warning) (s : State) : warnIf (some w) s = emit (.decodeWarning w) s := rfl

end Sys2Proof.Machine
end

