-- ==== Sys2Proof/Laws/Ops.lean ====
section
/-! SUPPORT. For each shared operation, once, everything it can do: an equation for each of its cases, and the relation `Continues`, which says what no
operation inside one step of the processor touches (the control registers, the buffers, the pending steps) and that the streams only grow. -/

namespace Sys2Proof.Machine

open Sys2Proof

/-! ## Transmit -/

/-- A send that is allowed appends one element (R199). -/
theorem send_sent (bytes : List Byte) {s : State} (h : canSend s = true) :
    send bytes s = (true, { s with tx := s.tx ++ [bytes] }) := by
  simp [send, h]

/-- A send that is not allowed reports (R199). -/
theorem send_failed (bytes : List Byte) {s : State} (h : canSend s = false) :
    send bytes s = (false, emit .sendFailed s) := by
  simp [send, h]

/-- `send` writes or reports; its answer tells which. -/
theorem send_cases (bytes : List Byte) (s : State) :
    (canSend s = true ∧ send bytes s = (true, { s with tx := s.tx ++ [bytes] })) ∨
      (canSend s = false ∧ send bytes s = (false, emit .sendFailed s)) := by
  cases h : canSend s
  · exact .inr ⟨rfl, send_failed bytes h⟩
  · exact .inl ⟨rfl, send_sent bytes h⟩

/-- `issueGeneric` is refused by the gate, refused by the RESUME check, sends, or fails softly (R351). -/
theorem issueGeneric_cases (code : Byte) (s : State) :
    (gateAdmits s (.generic code) = false ∧ issueGeneric code s = (false, emit (.commandRefused .noHandshake) s)) ∨
    (gateAdmits s (.generic code) = true ∧ resumeRefused s code = true ∧
      issueGeneric code s = (false, emit (.commandRefused .nozzleStowed) s)) ∨
    (gateAdmits s (.generic code) = true ∧ resumeRefused s code = false ∧ canSend s = true ∧
      issueGeneric code s = (true, { s with tx := s.tx ++ [encodeGeneric s.deviceAddr s.nozzle code s.crcOrder] })) ∨
    (gateAdmits s (.generic code) = true ∧ resumeRefused s code = false ∧ canSend s = false ∧
      issueGeneric code s = (false, emit .sendFailed s)) := by
  cases hg : gateAdmits s (.generic code)
  · exact .inl ⟨rfl, by simp [issueGeneric, hg]⟩
  · cases hr : resumeRefused s code
    · cases hc : canSend s
      · exact .inr (.inr (.inr ⟨rfl, rfl, rfl, by simp [issueGeneric, hg, hr, send, hc]⟩))
      · exact .inr (.inr (.inl ⟨rfl, rfl, rfl, by simp [issueGeneric, hg, hr, send, hc]⟩))
    · exact .inr (.inl ⟨rfl, rfl, by simp [issueGeneric, hg, hr]⟩)

/-! ## Handshake and state machine -/

/-- After the handshake a touch only writes the timestamp (R281). -/
theorem handshakeTouch_ok (now : Nat) {s : State} (h : s.hs.ok = true) :
    handshakeTouch now s = { s with hs := { s.hs with lastOkTimestamp := some now } } := by
  simp [handshakeTouch, h]

/-- The first touch acquires it (R281). -/
theorem handshakeTouch_first (now : Nat) {s : State} (h : s.hs.ok = false) :
    handshakeTouch now s = emit .handshakeAcquired { s with hs := ⟨true, true, some now⟩ } := by
  simp [handshakeTouch, h]

/-- A mapped status sets the state (R264). -/
theorem statusEvent_mapped {code : Byte} {table : StatusTable} {new : PumpState} {s : State}
    (h : mapStatus s.cfg code table = some new) : statusEvent code table s = setState new s := by
  simp [statusEvent, h]

/-- An unmapped status only warns (R266). -/
theorem statusEvent_unmapped {code : Byte} {table : StatusTable} {s : State}
    (h : mapStatus s.cfg code table = none) : statusEvent code table s = emit (.decodeWarning (.unknownStatus code)) s := by
  simp [statusEvent, h]

/-- Without the tracker, `setState` writes the state and reports (R265). -/
theorem setState_noTracker {new : PumpState} {s : State} (h : s.cfg.trackerPresent = false) :
    setState new s = emit (.statusChanged new) { s with pumpState := new, hintState := none } := by
  simp [setState, h]

/-- With the tracker, it also runs `onStatus` (R265). -/
theorem setState_tracker {new : PumpState} {s : State} (h : s.cfg.trackerPresent = true) :
    setState new s = onStatus s.pumpState new (emit (.statusChanged new) { s with pumpState := new, hintState := none }) := by
  simp [setState, h]

/-! ## Sale window -/

/-- The settlement of a closing window bumps, warns, or does nothing (R313). -/
theorem settleSale_cases (s : State) :
    (s.sale.hasVolumeSample = true ∧ s.sale.countersBumped = false ∧ settleSale s = bumpCounters s) ∨
    (s.sale.hasVolumeSample = false ∧ settleSale s = emit (.decodeWarning .noSampleInSale) s) ∨
    (s.sale.hasVolumeSample = true ∧ s.sale.countersBumped = true ∧ settleSale s = s) := by
  cases h1 : s.sale.hasVolumeSample <;> cases h2 : s.sale.countersBumped <;> simp [settleSale, h1, h2]

/-- `onStatus` by the class of the new state (R310): a window opens, or an active one closes and then perhaps is cleared, or neither. -/
theorem onStatus_cases (prev new : PumpState) (s : State) :
    (opensSale new = true ∧ s.sale.active = false ∧ onStatus prev new s = openWindow s) ∨
    (opensSale new = true ∧ s.sale.active = true ∧ onStatus prev new s = s) ∨
    (isTerminal new = true ∧ s.sale.active = true ∧
      onStatus prev new s = if isResetClass new && prev != new then clearSaleMemory (closeWindow s) else closeWindow s) ∨
    (isTerminal new = true ∧ s.sale.active = false ∧
      onStatus prev new s = if isResetClass new && prev != new then clearSaleMemory s else s) ∨
    (new = .suspended ∧ onStatus prev new s = s) := by
  cases ha : s.sale.active <;> cases new <;> simp [onStatus, opensSale, isTerminal, isResetClass, ha]

/-- The watch: nothing is due, or STOP is issued and, when it went out, recorded (R318). -/
theorem autoStop_cases (volumeCl : Nat) (s : State) :
    (stopDue s volumeCl = false ∧ autoStop volumeCl s = s) ∨
    (stopDue s volumeCl = true ∧ (issueGeneric s.cfg.codeStop s).1 = false ∧
      autoStop volumeCl s = (issueGeneric s.cfg.codeStop s).2) ∨
    (stopDue s volumeCl = true ∧ (issueGeneric s.cfg.codeStop s).1 = true ∧
      autoStop volumeCl s =
        { s with
          tx := s.tx ++ [encodeGeneric s.deviceAddr s.nozzle s.cfg.codeStop s.crcOrder]
          sale := { s.sale with stopSent := true } }) := by
  cases hd : stopDue s volumeCl
  · exact .inl ⟨rfl, by simp [autoStop, hd]⟩
  · rcases issueGeneric_cases s.cfg.codeStop s with ⟨_, h⟩ | ⟨_, _, h⟩ | ⟨_, _, _, h⟩ | ⟨_, _, _, h⟩
    · exact .inr (.inl ⟨rfl, by simp [h], by simp [autoStop, hd, h]⟩)
    · exact .inr (.inl ⟨rfl, by simp [h], by simp [autoStop, hd, h]⟩)
    · exact .inr (.inr ⟨rfl, by simp [h], by simp [autoStop, hd, h]⟩)
    · exact .inr (.inl ⟨rfl, by simp [h], by simp [autoStop, hd, h]⟩)

/-- Busy: nothing is pending, or AUTHORIZE is issued and, when it went out, no longer pending (R213). -/
theorem busy_cases (s : State) :
    (s.sale.authorizePending = false ∧ busy s = s) ∨
    (s.sale.authorizePending = true ∧ (issueGeneric s.cfg.codeAuthorize s).1 = false ∧
      busy s = (issueGeneric s.cfg.codeAuthorize s).2) ∨
    (s.sale.authorizePending = true ∧ (issueGeneric s.cfg.codeAuthorize s).1 = true ∧
      busy s =
        { s with
          tx := s.tx ++ [encodeGeneric s.deviceAddr s.nozzle s.cfg.codeAuthorize s.crcOrder]
          sale := { s.sale with authorizePending := false } }) := by
  cases hd : s.sale.authorizePending
  · exact .inl ⟨rfl, by simp [busy, hd]⟩
  · rcases issueGeneric_cases s.cfg.codeAuthorize s with ⟨_, h⟩ | ⟨_, _, h⟩ | ⟨_, _, _, h⟩ | ⟨_, _, _, h⟩
    · exact .inr (.inl ⟨rfl, by simp [h], by simp [busy, hd, h]⟩)
    · exact .inr (.inl ⟨rfl, by simp [h], by simp [busy, hd, h]⟩)
    · exact .inr (.inr ⟨rfl, by simp [h], by simp [busy, hd, h]⟩)
    · exact .inr (.inl ⟨rfl, by simp [h], by simp [busy, hd, h]⟩)

/-! ## Buffers -/

/-- What a byte does (R164, R61, R62): it is buffered, cuts a frame, overflows, or meets the other reading of R162. -/
theorem receiveByte_cases (b : Byte) (s : State) :
    (atCapacity s.cfg.rxCap s.rxBuf.length = true ∧ receiveByte b s = .fault .rxOverflow) ∨
    receiveByte b s = .next { s with rxBuf := s.rxBuf ++ [b] } ∨
    (b = Config.trailer ∧ ∃ shape, (shape = .long ∧ hasLongShape (s.rxBuf ++ [b]) = true ∨
        shape = .short ∧ hasLongShape (s.rxBuf ++ [b]) = false ∧ hasShortShape (s.rxBuf ++ [b]) = true) ∧
      receiveByte b s = .next { s with frameQ := s.frameQ ++ [⟨shape, s.rxBuf ++ [b]⟩], rxBuf := [] }) ∨
    (b = Config.trailer ∧ atCapacity s.cfg.rxCap s.rxBuf.length = false ∧ atCapacity s.cfg.queueCap s.frameQ.length = true ∧
      (hasLongShape (s.rxBuf ++ [b]) = true ∨ hasShortShape (s.rxBuf ++ [b]) = true) ∧
      (s.cfg.etxAdjacent = true ∨ hasLongShapeLoose (s.rxBuf ++ [b]) = false) ∧ receiveByte b s = .fault .queueOverflow) ∨
    (b = Config.trailer ∧ atCapacity s.cfg.rxCap s.rxBuf.length = false ∧ s.cfg.etxAdjacent = false ∧
      hasLongShapeLoose (s.rxBuf ++ [b]) = true ∧ receiveByte b s = .refused .etxPlacementUnspecified) := by
  cases hr : atCapacity s.cfg.rxCap s.rxBuf.length
  · by_cases hb : b = Config.trailer
    · cases he : s.cfg.etxAdjacent <;> cases hll : hasLongShapeLoose (s.rxBuf ++ [b]) <;>
        cases hl : hasLongShape (s.rxBuf ++ [b]) <;> cases hs : hasShortShape (s.rxBuf ++ [b]) <;>
        cases hq : atCapacity s.cfg.queueCap s.frameQ.length <;>
        subst hb <;> simp [receiveByte, cutFrame, enqueueBuffer, *]
    · simp [receiveByte, hr, hb]
  · simp [receiveByte, hr]

/-! ## What one step of the processor keeps -/

/-- `t` comes after `s` within one step of the processor: control registers, buffers and pending steps as before, streams grown, handshake not lost. -/
structure Continues (s t : State) : Prop where
  cfg : t.cfg = s.cfg
  crcOrder : t.crcOrder = s.crcOrder
  autoAck : t.autoAck = s.autoAck
  autoPoll : t.autoPoll = s.autoPoll
  pollIntervalMs : t.pollIntervalMs = s.pollIntervalMs
  deviceAddr : t.deviceAddr = s.deviceAddr
  nozzle : t.nozzle = s.nozzle
  transportOpen : t.transportOpen = s.transportOpen
  txFaulted : t.txFaulted = s.txFaulted
  rxBuf : t.rxBuf = s.rxBuf
  frameQ : t.frameQ = s.frameQ
  script : t.script = s.script
  tx : s.tx <+: t.tx
  evt : s.evt <+: t.evt
  handshake : s.hs.ok = true → t.hs.ok = true

theorem Continues.refl (s : State) : Continues s s := by
  constructor <;> simp

theorem Continues.trans {s t u : State} (h : Continues s t) (k : Continues t u) : Continues s u where
  cfg := k.cfg.trans h.cfg
  crcOrder := k.crcOrder.trans h.crcOrder
  autoAck := k.autoAck.trans h.autoAck
  autoPoll := k.autoPoll.trans h.autoPoll
  pollIntervalMs := k.pollIntervalMs.trans h.pollIntervalMs
  deviceAddr := k.deviceAddr.trans h.deviceAddr
  nozzle := k.nozzle.trans h.nozzle
  transportOpen := k.transportOpen.trans h.transportOpen
  txFaulted := k.txFaulted.trans h.txFaulted
  rxBuf := k.rxBuf.trans h.rxBuf
  frameQ := k.frameQ.trans h.frameQ
  script := k.script.trans h.script
  tx := h.tx.trans k.tx
  evt := h.evt.trans k.evt
  handshake := fun q => k.handshake (h.handshake q)

theorem continues_emit (e : Event) (s : State) : Continues s (emit e s) := by
  constructor <;> simp

theorem continues_warnIf (w : Option Warning) (s : State) : Continues s (warnIf w s) := by
  cases w
  · exact .refl s
  · exact continues_emit _ s

theorem continues_send (bytes : List Byte) (s : State) : Continues s (send bytes s).2 := by
  rcases send_cases bytes s with ⟨_, h⟩ | ⟨_, h⟩ <;> rw [h]
  · constructor <;> simp
  · exact continues_emit _ s

theorem continues_issueGeneric (code : Byte) (s : State) : Continues s (issueGeneric code s).2 := by
  rcases issueGeneric_cases code s with ⟨_, h⟩ | ⟨_, _, h⟩ | ⟨_, _, _, h⟩ | ⟨_, _, _, h⟩ <;> rw [h]
  · exact continues_emit _ s
  · exact continues_emit _ s
  · constructor <;> simp
  · exact continues_emit _ s

theorem continues_bumpCounters (s : State) : Continues s (bumpCounters s) := by
  constructor <;> simp

theorem continues_settleSale (s : State) : Continues s (settleSale s) := by
  rcases settleSale_cases s with ⟨_, _, h⟩ | ⟨_, h⟩ | ⟨_, _, h⟩ <;> rw [h]
  · exact continues_bumpCounters s
  · exact continues_emit _ s
  · exact .refl s

theorem continues_closeWindow (s : State) : Continues s (closeWindow s) :=
  (continues_settleSale s).trans (by constructor <;> simp [closeWindow])

theorem continues_openWindow (s : State) : Continues s (openWindow s) := by
  constructor <;> simp

theorem continues_clearSaleMemory (s : State) : Continues s (clearSaleMemory s) := by
  constructor <;> simp

theorem continues_onStatus (prev new : PumpState) (s : State) : Continues s (onStatus prev new s) := by
  rcases onStatus_cases prev new s with ⟨_, _, h⟩ | ⟨_, _, h⟩ | ⟨_, _, h⟩ | ⟨_, _, h⟩ | ⟨_, h⟩ <;> rw [h]
  · exact continues_openWindow s
  · exact .refl s
  · split
    · exact (continues_closeWindow s).trans (continues_clearSaleMemory _)
    · exact continues_closeWindow s
  · split
    · exact continues_clearSaleMemory s
    · exact .refl s
  · exact .refl s

theorem continues_setState (new : PumpState) (s : State) : Continues s (setState new s) := by
  have h : Continues s (emit (.statusChanged new) { s with pumpState := new, hintState := none }) := by
    constructor <;> simp
  unfold setState
  split
  · exact h.trans (continues_onStatus _ _ _)
  · exact h

theorem continues_handshakeTouch (now : Nat) (s : State) : Continues s (handshakeTouch now s) := by
  cases h : s.hs.ok
  · rw [handshakeTouch_first now h]
    constructor <;> simp
  · rw [handshakeTouch_ok now h]
    constructor <;> simp

theorem continues_statusEvent (code : Byte) (table : StatusTable) (s : State) : Continues s (statusEvent code table s) := by
  unfold statusEvent
  split
  · exact continues_emit _ s
  · exact continues_setState _ s

theorem continues_statusItem (code : Byte) (table : StatusTable) (now : Nat) (s : State) :
    Continues s (statusItem code table now s) :=
  (continues_handshakeTouch now s).trans (continues_statusEvent _ _ _)

theorem continues_autoStop (volumeCl : Nat) (s : State) : Continues s (autoStop volumeCl s) := by
  rcases autoStop_cases volumeCl s with ⟨_, h⟩ | ⟨_, _, h⟩ | ⟨_, _, h⟩ <;> rw [h]
  · exact .refl s
  · exact continues_issueGeneric _ s
  · constructor <;> simp

theorem continues_sample (volumeCl amountC : Nat) (s : State) : Continues s (sample volumeCl amountC s) := by
  have h : Continues s (rememberSample volumeCl amountC s) := by
    unfold rememberSample
    split
    · constructor <;> simp
    · exact .refl s
  exact h.trans (continues_autoStop _ _)

theorem continues_applyItem (now : Nat) (item : Item) (s : State) : Continues s (applyItem now item s) := by
  cases item with
  | status code table => exact continues_statusItem code table now s
  | volume v a =>
    unfold applyItem applyVolume
    dsimp only
    split
    · exact (continues_emit _ s).trans (continues_sample _ _ _)
    · exact continues_emit _ s
  | nozzlePrice p n o => constructor <;> simp [applyItem]
  | totals n a b c => exact continues_emit _ s

theorem continues_applyItems (now : Nat) (items : List Item) (s : State) : Continues s (applyItems now items s) := by
  induction items generalizing s with
  | nil => exact .refl s
  | cons i is ih => exact (continues_applyItem now i s).trans (ih _)

theorem continues_applyRecord (totals : Bool) (now : Nat) (r : SubRecord) (s : State) :
    Continues s (applyRecord totals now r s) := by
  unfold applyRecord recordStatus recordVolume recordTotals recordNozzlePrice recordUnknown
  repeat' split
  all_goals first | exact continues_applyItem _ _ _ | exact continues_emit _ s

theorem continues_applyRecords (totals : Bool) (now : Nat) (rs : List SubRecord) (s : State) :
    Continues s (applyRecords totals now rs s) := by
  induction rs generalizing s with
  | nil => exact .refl s
  | cons r rs ih => exact (continues_applyRecord totals now r s).trans (ih _)

theorem continues_walk (totals : Bool) (now : Nat) (payload : List Byte) (s : State) :
    Continues s (walk totals now payload s) :=
  (continues_applyRecords totals now _ s).trans (continues_warnIf _ _)

theorem continues_statusReply (payload : List Byte) (table : StatusTable) (now : Nat) (s : State) :
    Continues s (statusReply payload table now s) := by
  unfold statusReply
  split
  · exact continues_applyItem _ _ s
  · exact continues_emit _ s

theorem continues_busy (s : State) : Continues s (busy s) := by
  rcases busy_cases s with ⟨_, h⟩ | ⟨_, _, h⟩ | ⟨_, _, h⟩ <;> rw [h]
  · exact .refl s
  · exact continues_issueGeneric _ s
  · constructor <;> simp

theorem continues_acceptLong (command : Byte) (f : LongFrame) (s : State) : Continues s (acceptLong command f s) := by
  have h : ∀ s : State, Continues s (autoAcknowledge s) := fun s => by
    unfold autoAcknowledge
    split
    · exact continues_send _ s
    · exact .refl s
  exact ((continues_emit _ s).trans (h _)).trans (continues_warnIf _ _)

end Sys2Proof.Machine
end

