-- ==== Sys2Proof/Laws/PerInstr.lean ====
section
/-! SUPPORT. Per instruction: its encoding is a word of its own row of spec/opcode_table.json, by the selectors of R96. -/

namespace Sys2Proof.Laws

open Sys2Proof Sys2Proof.Machine

-- One theorem after the other: 73 elaborated at once ask for more threads than the memory bound has.
set_option Elab.async false

/-- The formats of the table (R96). -/
inductive Format where
  | rxLong | rxShort | subRec | statusBase | statusExt | txLong | txShort | host | step
  deriving DecidableEq, Repr

/-- Three bytes from the first on, as one number. -/
def number3 (bytes : List Byte) : Nat :=
  (bytes.getD 0 0).toNat * 65536 + (bytes.getD 1 0).toNat * 256 + (bytes.getD 2 0).toNat

/-- The format and the selector of an encoded instruction (R96). -/
def selector (w : DecodeContext × Code) : Format × Nat :=
  match w.2 with
  | .rxLong bytes => (.rxLong, (bytes.getD 1 0).toNat)
  | .rxShort bytes => (.rxShort, number3 bytes)
  | .subRec bytes => (.subRec, (if w.1.totals then 256 else 0) + (bytes.getD 0 0).toNat)
  | .statusBase b => (.statusBase, b.toNat)
  | .statusExt b => (.statusExt, b.toNat)
  | .txLong bytes => (.txLong, number3 (bytes.drop 1))
  | .txShort bytes => (.txShort, number3 bytes)
  | .host words => (.host, words.headD 0)
  | .step words => (.step, words.headD 0)

/-- The row of an instruction: its format, `mask` and `match`, as spec/opcode_table.json has them. -/
def tableRow : Instr → Format × Nat × Nat
  | .rxDirectStatus _ _ => (.rxLong, 0xFF, 0x01)
  | .rxStatusReply _ _ => (.rxLong, 0xFF, 0x30)
  | .rxComposite31 _ _ => (.rxLong, 0xFF, 0x31)
  | .rxComposite32 _ _ => (.rxLong, 0xFF, 0x32)
  | .rxComposite33 _ _ => (.rxLong, 0xFF, 0x33)
  | .rxComposite34 _ _ => (.rxLong, 0xFF, 0x34)
  | .rxComposite35 _ _ => (.rxLong, 0xFF, 0x35)
  | .rxComposite36 _ _ => (.rxLong, 0xFF, 0x36)
  | .rxComposite37 _ _ => (.rxLong, 0xFF, 0x37)
  | .rxComposite38 _ _ => (.rxLong, 0xFF, 0x38)
  | .rxComposite39 _ _ => (.rxLong, 0xFF, 0x39)
  | .rxComposite3a _ _ => (.rxLong, 0xFF, 0x3A)
  | .rxComposite3b _ _ => (.rxLong, 0xFF, 0x3B)
  | .rxComposite3c _ _ => (.rxLong, 0xFF, 0x3C)
  | .rxComposite3d _ _ => (.rxLong, 0xFF, 0x3D)
  | .rxComposite3e _ _ => (.rxLong, 0xFF, 0x3E)
  | .rxComposite3f _ _ => (.rxLong, 0xFF, 0x3F)
  | .rxCompositeTotals _ _ => (.rxLong, 0xFF, 0x65)
  | .rxStatusReplyCd _ _ => (.rxLong, 0xFF, 0xCD)
  | .rxAltStatus _ _ => (.rxLong, 0xFF, 0xD1)
  | .rxAltVolume _ _ => (.rxLong, 0xFF, 0xD2)
  | .rxAltTotals _ _ => (.rxLong, 0xFF, 0xD3)
  | .rxAltNozzle _ _ => (.rxLong, 0xFF, 0xD4)
  | .rxUnknownCommand _ _ => (.rxLong, 0x00, 0x00)
  | .rxPollEcho => (.rxShort, 0xFFFFFF, 0x5020FA)
  | .rxAckEcho => (.rxShort, 0xFFFFFF, 0x50C0FA)
  | .rxBusy => (.rxShort, 0xFFFFFF, 0x5070FA)
  | .rxUnknownShort _ => (.rxShort, 0xFF00FF, 0x5000FA)
  | .subStatus _ _ _ => (.subRec, 0x0FF, 0x001)
  | .subFilledVolumeAmount _ _ => (.subRec, 0x0FF, 0x002)
  | .subNozzlePrice _ => (.subRec, 0x1FF, 0x003)
  | .subTotals _ => (.subRec, 0x1FF, 0x103)
  | .subUnknownTrans _ _ _ => (.subRec, 0x000, 0x000)
  | .stNotProgrammed _ => (.statusBase, 0xFF, 0x00)
  | .stReset _ => (.statusBase, 0xFF, 0x01)
  | .stAuthorized _ => (.statusBase, 0xFF, 0x02)
  | .stFilling _ => (.statusBase, 0xFF, 0x04)
  | .stFillingCompleted _ => (.statusBase, 0xFF, 0x05)
  | .stMaxAmountVolume _ => (.statusBase, 0xFF, 0x06)
  | .stCode03 _ => (.statusBase, 0xFF, 0x03)
  | .stUnmapped _ _ => (.statusBase, 0x00, 0x00)
  | .stxNotProgrammed _ => (.statusExt, 0xFF, 0x00)
  | .stxReset _ => (.statusExt, 0xFF, 0x01)
  | .stxAuthorized _ => (.statusExt, 0xFF, 0x02)
  | .stxFilling _ => (.statusExt, 0xFF, 0x04)
  | .stxFillingCompleted _ => (.statusExt, 0xFF, 0x05)
  | .stxMaxAmountVolume _ => (.statusExt, 0xFF, 0x06)
  | .stxSwitchedOff _ => (.statusExt, 0xFF, 0x07)
  | .stxSuspended _ => (.statusExt, 0xFF, 0x0B)
  | .stxCode03 _ => (.statusExt, 0xFF, 0x03)
  | .stxUnmapped _ _ => (.statusExt, 0x00, 0x00)
  | .txPresetVolume _ _ => (.txLong, 0xFFFFFF, 0x300304)
  | .txGeneric _ _ _ => (.txLong, 0xFF00FF, 0x300001)
  | .txTotalsRequest _ _ => (.txLong, 0xFFFFFF, 0x3C6501)
  | .txMinPoll => (.txShort, 0xFFFFFF, 0x5020FA)
  | .txMinAck => (.txShort, 0xFFFFFF, 0x50C0FA)
  | .hostSendGeneric _ => (.host, 0xFF, 0x00)
  | .hostSendPresetVolume _ => (.host, 0xFF, 0x01)
  | .hostSendTotalsRequest => (.host, 0xFF, 0x02)
  | .hostSendMinPoll => (.host, 0xFF, 0x03)
  | .hostSendMinAck => (.host, 0xFF, 0x04)
  | .hostSetCrcOrder _ => (.host, 0xFF, 0x05)
  | .hostSetAutoAck _ => (.host, 0xFF, 0x06)
  | .hostSetAutoPoll _ _ => (.host, 0xFF, 0x07)
  | .hostTransportOpen _ => (.host, 0xFF, 0x08)
  | .hostTransportClose => (.host, 0xFF, 0x09)
  | .hostIntentHint _ => (.host, 0xFF, 0x0A)
  | .stepRxByte _ => (.step, 0xFF, 0x00)
  | .stepDispatch _ => (.step, 0xFF, 0x01)
  | .stepTimerFire => (.step, 0xFF, 0x02)
  | .stepHost _ => (.step, 0xFF, 0x03)
  | .stepTransportFault => (.step, 0xFF, 0x04)
  | .stepSessionReset _ => (.step, 0xFF, 0x05)

/-- The encoding of a well-formed instruction matches its row, under either CRC byte order. -/
def TableRow.Statement (i : Instr) : Prop :=
  i.wf = true → ∀ order : CrcOrder,
    (selector (encode order i)).1 = (tableRow i).1 ∧
      (selector (encode order i)).2 &&& (tableRow i).2.1 = (tableRow i).2.2

/-- The masks of `rx.unknown_short` and `tx.generic` drop the middle byte. -/
theorem middle_byte_dropped : ∀ b : Byte,
    number3 [0x50, b, 0xFA] &&& 0xFF00FF = 0x5000FA ∧ number3 [0x30, b, 0x01] &&& 0xFF00FF = 0x300001 := by
  decide +kernel

theorem TableRow.rxDirectStatus : ∀ a0 a1, TableRow.Statement (.rxDirectStatus a0 a1) := by
  intro a0 a1
  exact fun _ _ => ⟨rfl, by simp [selector, encode, longFrameBytes, tableRow]⟩

theorem TableRow.rxStatusReply : ∀ a0 a1, TableRow.Statement (.rxStatusReply a0 a1) := by
  intro a0 a1
  exact fun _ _ => ⟨rfl, by simp [selector, encode, longFrameBytes, tableRow]⟩

theorem TableRow.rxComposite31 : ∀ a0 a1, TableRow.Statement (.rxComposite31 a0 a1) := by
  intro a0 a1
  exact fun _ _ => ⟨rfl, by simp [selector, encode, longFrameBytes, tableRow]⟩

theorem TableRow.rxComposite32 : ∀ a0 a1, TableRow.Statement (.rxComposite32 a0 a1) := by
  intro a0 a1
  exact fun _ _ => ⟨rfl, by simp [selector, encode, longFrameBytes, tableRow]⟩

theorem TableRow.rxComposite33 : ∀ a0 a1, TableRow.Statement (.rxComposite33 a0 a1) := by
  intro a0 a1
  exact fun _ _ => ⟨rfl, by simp [selector, encode, longFrameBytes, tableRow]⟩

theorem TableRow.rxComposite34 : ∀ a0 a1, TableRow.Statement (.rxComposite34 a0 a1) := by
  intro a0 a1
  exact fun _ _ => ⟨rfl, by simp [selector, encode, longFrameBytes, tableRow]⟩

theorem TableRow.rxComposite35 : ∀ a0 a1, TableRow.Statement (.rxComposite35 a0 a1) := by
  intro a0 a1
  exact fun _ _ => ⟨rfl, by simp [selector, encode, longFrameBytes, tableRow]⟩

theorem TableRow.rxComposite36 : ∀ a0 a1, TableRow.Statement (.rxComposite36 a0 a1) := by
  intro a0 a1
  exact fun _ _ => ⟨rfl, by simp [selector, encode, longFrameBytes, tableRow]⟩

theorem TableRow.rxComposite37 : ∀ a0 a1, TableRow.Statement (.rxComposite37 a0 a1) := by
  intro a0 a1
  exact fun _ _ => ⟨rfl, by simp [selector, encode, longFrameBytes, tableRow]⟩

theorem TableRow.rxComposite38 : ∀ a0 a1, TableRow.Statement (.rxComposite38 a0 a1) := by
  intro a0 a1
  exact fun _ _ => ⟨rfl, by simp [selector, encode, longFrameBytes, tableRow]⟩

theorem TableRow.rxComposite39 : ∀ a0 a1, TableRow.Statement (.rxComposite39 a0 a1) := by
  intro a0 a1
  exact fun _ _ => ⟨rfl, by simp [selector, encode, longFrameBytes, tableRow]⟩

theorem TableRow.rxComposite3a : ∀ a0 a1, TableRow.Statement (.rxComposite3a a0 a1) := by
  intro a0 a1
  exact fun _ _ => ⟨rfl, by simp [selector, encode, longFrameBytes, tableRow]⟩

theorem TableRow.rxComposite3b : ∀ a0 a1, TableRow.Statement (.rxComposite3b a0 a1) := by
  intro a0 a1
  exact fun _ _ => ⟨rfl, by simp [selector, encode, longFrameBytes, tableRow]⟩

theorem TableRow.rxComposite3c : ∀ a0 a1, TableRow.Statement (.rxComposite3c a0 a1) := by
  intro a0 a1
  exact fun _ _ => ⟨rfl, by simp [selector, encode, longFrameBytes, tableRow]⟩

theorem TableRow.rxComposite3d : ∀ a0 a1, TableRow.Statement (.rxComposite3d a0 a1) := by
  intro a0 a1
  exact fun _ _ => ⟨rfl, by simp [selector, encode, longFrameBytes, tableRow]⟩

theorem TableRow.rxComposite3e : ∀ a0 a1, TableRow.Statement (.rxComposite3e a0 a1) := by
  intro a0 a1
  exact fun _ _ => ⟨rfl, by simp [selector, encode, longFrameBytes, tableRow]⟩

theorem TableRow.rxComposite3f : ∀ a0 a1, TableRow.Statement (.rxComposite3f a0 a1) := by
  intro a0 a1
  exact fun _ _ => ⟨rfl, by simp [selector, encode, longFrameBytes, tableRow]⟩

theorem TableRow.rxCompositeTotals : ∀ a0 a1, TableRow.Statement (.rxCompositeTotals a0 a1) := by
  intro a0 a1
  exact fun _ _ => ⟨rfl, by simp [selector, encode, longFrameBytes, tableRow]⟩

theorem TableRow.rxStatusReplyCd : ∀ a0 a1, TableRow.Statement (.rxStatusReplyCd a0 a1) := by
  intro a0 a1
  exact fun _ _ => ⟨rfl, by simp [selector, encode, longFrameBytes, tableRow]⟩

theorem TableRow.rxAltStatus : ∀ a0 a1, TableRow.Statement (.rxAltStatus a0 a1) := by
  intro a0 a1
  exact fun _ _ => ⟨rfl, by simp [selector, encode, longFrameBytes, tableRow]⟩

theorem TableRow.rxAltVolume : ∀ a0 a1, TableRow.Statement (.rxAltVolume a0 a1) := by
  intro a0 a1
  exact fun _ _ => ⟨rfl, by simp [selector, encode, longFrameBytes, tableRow]⟩

theorem TableRow.rxAltTotals : ∀ a0 a1, TableRow.Statement (.rxAltTotals a0 a1) := by
  intro a0 a1
  exact fun _ _ => ⟨rfl, by simp [selector, encode, longFrameBytes, tableRow]⟩

theorem TableRow.rxAltNozzle : ∀ a0 a1, TableRow.Statement (.rxAltNozzle a0 a1) := by
  intro a0 a1
  exact fun _ _ => ⟨rfl, by simp [selector, encode, longFrameBytes, tableRow]⟩

theorem TableRow.rxUnknownCommand : ∀ a0 a1, TableRow.Statement (.rxUnknownCommand a0 a1) := by
  intro a0 a1
  exact fun _ _ => ⟨rfl, Nat.and_zero _⟩

theorem TableRow.rxPollEcho : TableRow.Statement (.rxPollEcho) := fun _ _ => ⟨rfl, by simp [selector, encode, shortFrameBytes, tableRow, number3, Config.shortLead, Config.trailer]⟩

theorem TableRow.rxAckEcho : TableRow.Statement (.rxAckEcho) := fun _ _ => ⟨rfl, by simp [selector, encode, shortFrameBytes, tableRow, number3, Config.shortLead, Config.trailer]⟩

theorem TableRow.rxBusy : TableRow.Statement (.rxBusy) := fun _ _ => ⟨rfl, by simp [selector, encode, shortFrameBytes, tableRow, number3, Config.shortLead, Config.trailer]⟩

theorem TableRow.rxUnknownShort : ∀ a0, TableRow.Statement (.rxUnknownShort a0) := by
  intro a0
  exact fun _ _ => ⟨rfl, (middle_byte_dropped a0).1⟩

theorem TableRow.subStatus : ∀ a0 a1 a2, TableRow.Statement (.subStatus a0 a1 a2) := by
  intro a0 a1 a2
  exact fun _ _ => ⟨rfl, by cases a1 <;> simp [selector, encode, subRecordBytes, tableRow]⟩

theorem TableRow.subFilledVolumeAmount : ∀ a0 a1, TableRow.Statement (.subFilledVolumeAmount a0 a1) := by
  intro a0 a1
  exact fun _ _ => ⟨rfl, by cases a0 <;> simp [selector, encode, subRecordBytes, tableRow]⟩

theorem TableRow.subNozzlePrice : ∀ a0, TableRow.Statement (.subNozzlePrice a0) := by
  intro a0
  exact fun _ _ => ⟨rfl, by simp [selector, encode, subRecordBytes, tableRow]⟩

theorem TableRow.subTotals : ∀ a0, TableRow.Statement (.subTotals a0) := by
  intro a0
  exact fun _ _ => ⟨rfl, by simp [selector, encode, subRecordBytes, tableRow]⟩

theorem TableRow.subUnknownTrans : ∀ a0 a1 a2, TableRow.Statement (.subUnknownTrans a0 a1 a2) := by
  intro a0 a1 a2
  exact fun _ _ => ⟨rfl, Nat.and_zero _⟩

theorem TableRow.stNotProgrammed : ∀ a0, TableRow.Statement (.stNotProgrammed a0) := by
  intro a0
  exact fun _ _ => ⟨rfl, by simp [selector, encode, tableRow]⟩

theorem TableRow.stReset : ∀ a0, TableRow.Statement (.stReset a0) := by
  intro a0
  exact fun _ _ => ⟨rfl, by simp [selector, encode, tableRow]⟩

theorem TableRow.stAuthorized : ∀ a0, TableRow.Statement (.stAuthorized a0) := by
  intro a0
  exact fun _ _ => ⟨rfl, by simp [selector, encode, tableRow]⟩

theorem TableRow.stFilling : ∀ a0, TableRow.Statement (.stFilling a0) := by
  intro a0
  exact fun _ _ => ⟨rfl, by simp [selector, encode, tableRow]⟩

theorem TableRow.stFillingCompleted : ∀ a0, TableRow.Statement (.stFillingCompleted a0) := by
  intro a0
  exact fun _ _ => ⟨rfl, by simp [selector, encode, tableRow]⟩

theorem TableRow.stMaxAmountVolume : ∀ a0, TableRow.Statement (.stMaxAmountVolume a0) := by
  intro a0
  exact fun _ _ => ⟨rfl, by simp [selector, encode, tableRow]⟩

theorem TableRow.stCode03 : ∀ a0, TableRow.Statement (.stCode03 a0) := by
  intro a0
  exact fun _ _ => ⟨rfl, by simp [selector, encode, tableRow]⟩

theorem TableRow.stUnmapped : ∀ a0 a1, TableRow.Statement (.stUnmapped a0 a1) := by
  intro a0 a1
  exact fun _ _ => ⟨rfl, Nat.and_zero _⟩

theorem TableRow.stxNotProgrammed : ∀ a0, TableRow.Statement (.stxNotProgrammed a0) := by
  intro a0
  exact fun _ _ => ⟨rfl, by simp [selector, encode, tableRow]⟩

theorem TableRow.stxReset : ∀ a0, TableRow.Statement (.stxReset a0) := by
  intro a0
  exact fun _ _ => ⟨rfl, by simp [selector, encode, tableRow]⟩

theorem TableRow.stxAuthorized : ∀ a0, TableRow.Statement (.stxAuthorized a0) := by
  intro a0
  exact fun _ _ => ⟨rfl, by simp [selector, encode, tableRow]⟩

theorem TableRow.stxFilling : ∀ a0, TableRow.Statement (.stxFilling a0) := by
  intro a0
  exact fun _ _ => ⟨rfl, by simp [selector, encode, tableRow]⟩

theorem TableRow.stxFillingCompleted : ∀ a0, TableRow.Statement (.stxFillingCompleted a0) := by
  intro a0
  exact fun _ _ => ⟨rfl, by simp [selector, encode, tableRow]⟩

theorem TableRow.stxMaxAmountVolume : ∀ a0, TableRow.Statement (.stxMaxAmountVolume a0) := by
  intro a0
  exact fun _ _ => ⟨rfl, by simp [selector, encode, tableRow]⟩

theorem TableRow.stxSwitchedOff : ∀ a0, TableRow.Statement (.stxSwitchedOff a0) := by
  intro a0
  exact fun _ _ => ⟨rfl, by simp [selector, encode, tableRow]⟩

theorem TableRow.stxSuspended : ∀ a0, TableRow.Statement (.stxSuspended a0) := by
  intro a0
  exact fun _ _ => ⟨rfl, by simp [selector, encode, tableRow]⟩

theorem TableRow.stxCode03 : ∀ a0, TableRow.Statement (.stxCode03 a0) := by
  intro a0
  exact fun _ _ => ⟨rfl, by simp [selector, encode, tableRow]⟩

theorem TableRow.stxUnmapped : ∀ a0 a1, TableRow.Statement (.stxUnmapped a0 a1) := by
  intro a0 a1
  exact fun _ _ => ⟨rfl, Nat.and_zero _⟩

theorem TableRow.txPresetVolume : ∀ a0 a1, TableRow.Statement (.txPresetVolume a0 a1) := by
  intro a0 a1
  exact fun _ _ => ⟨rfl, by simp [selector, encode, encodePreset, longClose, tableRow, number3]⟩

theorem TableRow.txGeneric : ∀ a0 a1 a2, TableRow.Statement (.txGeneric a0 a1 a2) := by
  intro a0 a1 a2
  exact fun _ _ => ⟨rfl, (middle_byte_dropped a1).2⟩

theorem TableRow.txTotalsRequest : ∀ a0 a1, TableRow.Statement (.txTotalsRequest a0 a1) := by
  intro a0 a1
  exact fun _ _ => ⟨rfl, by simp [selector, encode, encodeTotalsRequest, longClose, tableRow, number3]⟩

theorem TableRow.txMinPoll : TableRow.Statement (.txMinPoll) := fun _ _ => ⟨rfl, by simp [selector, encode, minPoll, tableRow, number3]⟩

theorem TableRow.txMinAck : TableRow.Statement (.txMinAck) := fun _ _ => ⟨rfl, by simp [selector, encode, minAck, tableRow, number3]⟩

theorem TableRow.hostSendGeneric : ∀ a0, TableRow.Statement (.hostSendGeneric a0) := by
  intro a0
  exact fun _ _ => ⟨rfl, by simp [selector, encode, encodeHostOp, tableRow]⟩

theorem TableRow.hostSendPresetVolume : ∀ a0, TableRow.Statement (.hostSendPresetVolume a0) := by
  intro a0
  exact fun _ _ => ⟨rfl, by simp [selector, encode, encodeHostOp, tableRow]⟩

theorem TableRow.hostSendTotalsRequest : TableRow.Statement (.hostSendTotalsRequest) := fun _ _ => ⟨rfl, by simp [selector, encode, encodeHostOp, tableRow]⟩

theorem TableRow.hostSendMinPoll : TableRow.Statement (.hostSendMinPoll) := fun _ _ => ⟨rfl, by simp [selector, encode, encodeHostOp, tableRow]⟩

theorem TableRow.hostSendMinAck : TableRow.Statement (.hostSendMinAck) := fun _ _ => ⟨rfl, by simp [selector, encode, encodeHostOp, tableRow]⟩

theorem TableRow.hostSetCrcOrder : ∀ a0, TableRow.Statement (.hostSetCrcOrder a0) := by
  intro a0
  exact fun _ _ => ⟨rfl, by simp [selector, encode, encodeHostOp, tableRow]⟩

theorem TableRow.hostSetAutoAck : ∀ a0, TableRow.Statement (.hostSetAutoAck a0) := by
  intro a0
  exact fun _ _ => ⟨rfl, by simp [selector, encode, encodeHostOp, tableRow]⟩

theorem TableRow.hostSetAutoPoll : ∀ a0 a1, TableRow.Statement (.hostSetAutoPoll a0 a1) := by
  intro a0 a1
  exact fun _ _ => ⟨rfl, by simp [selector, encode, encodeHostOp, tableRow]⟩

theorem TableRow.hostTransportOpen : ∀ a0, TableRow.Statement (.hostTransportOpen a0) := by
  intro a0
  exact fun _ _ => ⟨rfl, by simp [selector, encode, encodeHostOp, tableRow]⟩

theorem TableRow.hostTransportClose : TableRow.Statement (.hostTransportClose) := fun _ _ => ⟨rfl, by simp [selector, encode, encodeHostOp, tableRow]⟩

theorem TableRow.hostIntentHint : ∀ a0, TableRow.Statement (.hostIntentHint a0) := by
  intro a0
  exact fun _ _ => ⟨rfl, by simp [selector, encode, encodeHostOp, tableRow]⟩

theorem TableRow.stepRxByte : ∀ a0, TableRow.Statement (.stepRxByte a0) := by
  intro a0
  exact fun _ _ => ⟨rfl, by simp [selector, encode, tableRow]⟩

theorem TableRow.stepDispatch : ∀ a0, TableRow.Statement (.stepDispatch a0) := by
  intro a0
  exact fun _ _ => ⟨rfl, by simp [selector, encode, tableRow]⟩

theorem TableRow.stepTimerFire : TableRow.Statement (.stepTimerFire) := fun _ _ => ⟨rfl, by simp [selector, encode, tableRow]⟩

theorem TableRow.stepHost : ∀ a0, TableRow.Statement (.stepHost a0) := by
  intro a0
  exact fun _ _ => ⟨rfl, by simp [selector, encode, tableRow]⟩

theorem TableRow.stepTransportFault : TableRow.Statement (.stepTransportFault) := fun _ _ => ⟨rfl, by simp [selector, encode, tableRow]⟩

theorem TableRow.stepSessionReset : ∀ a0, TableRow.Statement (.stepSessionReset a0) := by
  intro a0
  exact fun _ _ => ⟨rfl, by cases a0 <;> simp [selector, encode, encodeSessionReset, tableRow]⟩

end Sys2Proof.Laws
end

