-- ==== Sys2Proof/Laws/Rows.lean ====
section
/-! SUPPORT. One induction for all inbound rows: what the shared operations keep, every inbound frame, sub-record and status code keeps, and so does `Dispatch`. -/

namespace Sys2Proof.Machine

open Sys2Proof

/-- The rows that stand for something received: frames, sub-records, status codes. -/
def inboundRow : Instr → Bool
  | .rxDirectStatus _ _ | .rxStatusReply _ _ | .rxComposite31 _ _ | .rxComposite32 _ _ | .rxComposite33 _ _
  | .rxComposite34 _ _ | .rxComposite35 _ _ | .rxComposite36 _ _ | .rxComposite37 _ _ | .rxComposite38 _ _
  | .rxComposite39 _ _ | .rxComposite3a _ _ | .rxComposite3b _ _ | .rxComposite3c _ _ | .rxComposite3d _ _
  | .rxComposite3e _ _ | .rxComposite3f _ _ | .rxCompositeTotals _ _ | .rxStatusReplyCd _ _ | .rxAltStatus _ _
  | .rxAltVolume _ _ | .rxAltTotals _ _ | .rxAltNozzle _ _ | .rxUnknownCommand _ _ | .rxPollEcho | .rxAckEcho
  | .rxBusy | .rxUnknownShort _ | .subStatus _ _ _ | .subFilledVolumeAmount _ _ | .subNozzlePrice _ | .subTotals _
  | .subUnknownTrans _ _ _ | .stNotProgrammed _ | .stReset _ | .stAuthorized _ | .stCode03 _ | .stFilling _
  | .stFillingCompleted _ | .stMaxAmountVolume _ | .stUnmapped _ _ | .stxNotProgrammed _ | .stxReset _
  | .stxAuthorized _ | .stxCode03 _ | .stxFilling _ | .stxFillingCompleted _ | .stxMaxAmountVolume _
  | .stxSwitchedOff _ | .stxSuspended _ | .stxUnmapped _ _ => true
  | _ => false

/-- The reports that decoding makes by `emit` alone; the others belong to an operation that changes the state with them. -/
def plainReport : Event → Bool
  | .frameTrace _ _ | .decodeWarning _ | .volumeSample _ _ | .totalsReport _ _ _ _ | .softFail _ => true
  | _ => false

/-- A property of states that the operations of the decoder keep. -/
structure KeptByDecoding (P : State → Prop) : Prop where
  emit : ∀ e s, plainReport e = true → P s → P (emit e s)
  ack : ∀ s, P s → P (send minAck s).2
  touch : ∀ now s, P s → P (handshakeTouch now s)
  setState : ∀ new s, P s → P (setState new s)
  sample : ∀ v a s, s.cfg.trackerPresent = true → P s → P (sample v a s)
  nozzle : ∀ p n o s, P s → P (applyNozzlePrice p n o s)
  busy : ∀ s, P s → P (busy s)

namespace KeptByDecoding

variable {P : State → Prop}

theorem warnIf (h : KeptByDecoding P) (w : Option Warning) (s : State) (hs : P s) : P (warnIf w s) := by
  cases w
  · exact hs
  · exact h.emit _ _ (by rfl) hs

theorem statusItem (h : KeptByDecoding P) (code : Byte) (table : StatusTable) (now : Nat) (s : State) (hs : P s) :
    P (statusItem code table now s) := by
  unfold Machine.statusItem statusEvent
  split
  · exact h.emit _ _ (by rfl) (h.touch _ _ hs)
  · exact h.setState _ _ (h.touch _ _ hs)

theorem applyItem (h : KeptByDecoding P) (now : Nat) (item : Item) (s : State) (hs : P s) : P (applyItem now item s) := by
  cases item with
  | status code table => exact h.statusItem code table now s hs
  | volume v a =>
    unfold Machine.applyItem applyVolume
    dsimp only
    split
    · rename_i ht
      exact h.sample _ _ _ (by simpa using ht) (h.emit _ _ (by rfl) hs)
    · exact h.emit _ _ (by rfl) hs
  | nozzlePrice p n o => exact h.nozzle p n o s hs
  | totals n a b c => exact h.emit _ _ (by rfl) hs

theorem applyItems (h : KeptByDecoding P) (now : Nat) (items : List Item) (s : State) (hs : P s) :
    P (applyItems now items s) := by
  induction items generalizing s with
  | nil => exact hs
  | cons i is ih => exact ih _ (h.applyItem now i s hs)

theorem applyRecord (h : KeptByDecoding P) (totals : Bool) (now : Nat) (r : SubRecord) (s : State) (hs : P s) :
    P (applyRecord totals now r s) := by
  unfold Machine.applyRecord recordStatus recordVolume recordTotals recordNozzlePrice recordUnknown
  repeat' split
  all_goals first | exact h.applyItem _ _ _ hs | exact h.emit _ _ (by rfl) hs

theorem applyRecords (h : KeptByDecoding P) (totals : Bool) (now : Nat) (rs : List SubRecord) (s : State) (hs : P s) :
    P (applyRecords totals now rs s) := by
  induction rs generalizing s with
  | nil => exact hs
  | cons r rs ih => exact ih _ (h.applyRecord totals now r s hs)

theorem walk (h : KeptByDecoding P) (totals : Bool) (now : Nat) (payload : List Byte) (s : State) (hs : P s) :
    P (walk totals now payload s) :=
  h.warnIf _ _ (h.applyRecords totals now _ s hs)

theorem statusReply (h : KeptByDecoding P) (payload : List Byte) (table : StatusTable) (now : Nat) (s : State) (hs : P s) :
    P (statusReply payload table now s) := by
  unfold Machine.statusReply
  split
  · exact h.applyItem _ _ _ hs
  · exact h.emit _ _ (by rfl) hs

theorem acceptLong (h : KeptByDecoding P) (command : Byte) (f : LongFrame) (s : State) (hs : P s) :
    P (acceptLong command f s) := by
  refine h.warnIf _ _ ?_
  unfold autoAcknowledge
  split
  · exact h.ack _ (h.emit _ _ (by rfl) hs)
  · exact h.emit _ _ (by rfl) hs

theorem receiveLong (h : KeptByDecoding P) {command : Byte} {f : LongFrame} {handler : State → Result} {s t : State}
    (hh : ∀ u v, P u → handler u = .next v → P v) (hs : P s) (ht : receiveLong command f handler s = .next t) : P t := by
  unfold Machine.receiveLong at ht
  split at ht
  · cases ht
    exact h.emit _ _ (by rfl) hs
  · split at ht
    · exact hh _ _ (h.acceptLong _ _ _ hs) ht
    · cases ht
      exact h.emit _ _ (by rfl) hs

theorem receiveShort (h : KeptByDecoding P) {code : Byte} {handler : State → State} {s t : State}
    (hh : ∀ u, P u → P (handler u)) (hs : P s) (ht : receiveShort code handler s = .next t) : P t := by
  unfold Machine.receiveShort at ht
  split at ht
  · cases ht
    exact h.emit _ _ (by rfl) hs
  · cases ht
    exact hh _ (h.emit _ _ (by rfl) hs)

theorem altFrame (h : KeptByDecoding P) {command : Byte} {payload : List Byte} {now : Nat} (u v : State) (hu : P u)
    (ht : altFrame command payload now u = .next v) : P v := by
  unfold Machine.altFrame at ht
  split at ht
  · split at ht
    · cases ht
      exact h.emit _ _ (by rfl) hu
    · cases ht
      exact h.applyItems _ _ _ hu
  · cases ht

/-- Every inbound row keeps what the decoder's operations keep. -/
theorem exec (h : KeptByDecoding P) {i : Instr} {s t : State} (hi : inboundRow i = true) (hs : P s)
    (ht : exec i s = .next t) : P t := by
  cases i <;>
    dsimp only [Machine.exec, execRxDirectStatus, execRxStatusReply, execRxStatusReplyCd, execRxComposite31, execRxComposite32,
      execRxComposite33, execRxComposite34, execRxComposite35, execRxComposite36, execRxComposite37, execRxComposite38,
      execRxComposite39, execRxComposite3a, execRxComposite3b, execRxComposite3c, execRxComposite3d, execRxComposite3e,
      execRxComposite3f, execRxCompositeTotals, execRxAltStatus, execRxAltVolume, execRxAltTotals, execRxAltNozzle,
      execRxUnknownCommand, execRxPollEcho, execRxAckEcho, execRxBusy, execRxUnknownShort] at ht
  case rxDirectStatus => exact h.receiveLong (fun u v hu e => by cases e; exact h.statusReply _ _ _ _ hu) hs ht
  case rxStatusReply => exact h.receiveLong (fun u v hu e => by cases e; exact h.statusReply _ _ _ _ hu) hs ht
  case rxStatusReplyCd => exact h.receiveLong (fun u v hu e => by cases e; exact h.statusReply _ _ _ _ hu) hs ht
  case rxUnknownCommand => exact h.receiveLong (fun u v hu e => by cases e; exact h.emit _ _ (by rfl) hu) hs ht
  case rxAltStatus => exact h.receiveLong h.altFrame hs ht
  case rxAltVolume => exact h.receiveLong h.altFrame hs ht
  case rxAltTotals => exact h.receiveLong h.altFrame hs ht
  case rxAltNozzle => exact h.receiveLong h.altFrame hs ht
  case rxPollEcho => exact h.receiveShort (fun u hu => hu) hs ht
  case rxAckEcho => exact h.receiveShort (fun u hu => hu) hs ht
  case rxBusy => exact h.receiveShort h.busy hs ht
  case rxUnknownShort => exact h.receiveShort (fun u hu => h.emit _ _ (by rfl) hu) hs ht
  case subStatus =>
    cases ht
    unfold recordStatus
    split
    · exact h.applyItem _ _ _ hs
    · exact h.emit _ _ (by rfl) hs
  case subFilledVolumeAmount =>
    cases ht
    unfold recordVolume
    split
    · exact h.applyItem _ _ _ hs
    · exact h.emit _ _ (by rfl) hs
  case subNozzlePrice =>
    cases ht
    unfold recordNozzlePrice
    split
    · exact h.applyItem _ _ _ hs
    · exact h.emit _ _ (by rfl) hs
  case subTotals =>
    cases ht
    unfold recordTotals
    split
    · exact h.applyItem _ _ _ hs
    · exact h.emit _ _ (by rfl) hs
  case subUnknownTrans =>
    cases ht
    exact h.emit _ _ (by rfl) hs
  all_goals
    first
      | (cases hi; done)
      | exact h.receiveLong (fun u v hu e => by cases e; exact h.walk _ _ _ _ hu) hs ht
      | (cases ht; exact h.statusItem _ _ _ _ hs)

/-- `runFrame` runs only inbound rows, and as `exec` does. -/
theorem runFrame_exec {i : Instr} {s t : State} (ht : Machine.runFrame i s = .next t) :
    inboundRow i = true ∧ Machine.exec i s = .next t := by
  cases i <;> first | exact ⟨rfl, ht⟩ | (cases ht)

/-- Running a decoded frame keeps it too. -/
theorem runFrame (h : KeptByDecoding P) {i : Instr} {s t : State} (hs : P s) (ht : runFrame i s = .next t) : P t := by
  obtain ⟨hi, he⟩ := runFrame_exec ht
  exact h.exec hi hs he

/-- So does `Dispatch`, from the state after the pop. -/
theorem dispatch (h : KeptByDecoding P) {now : Nat} {s t : State} {q : Frame} {rest : List Frame} (hq : s.frameQ = q :: rest)
    (hs : P { s with frameQ := rest }) (ht : Machine.exec (.stepDispatch now) s = .next t) : P t := by
  simp only [Machine.exec, execStepDispatch, hq, dispatchFrame] at ht
  split at ht
  · cases ht
    exact h.emit _ _ (by rfl) hs
  · split at ht
    · exact h.runFrame hs ht
    · cases ht

end KeptByDecoding

/-- An inbound row continues the state it starts from. -/
theorem keptByDecoding_continues (s : State) : KeptByDecoding (Continues s) where
  emit _ _ _ h := h.trans (continues_emit _ _)
  ack _ h := h.trans (continues_send _ _)
  touch _ _ h := h.trans (continues_handshakeTouch _ _)
  setState _ _ h := h.trans (continues_setState _ _)
  sample _ _ _ _ h := h.trans (continues_sample _ _ _)
  nozzle p n o _ h := h.trans (continues_applyItem 0 (.nozzlePrice p n o) _)
  busy _ h := h.trans (continues_busy _)

end Sys2Proof.Machine
end

