-- ==== Sys2Proof/Tests/Slice0.lean ====
section
/-! SUPPORT. Tests by named theorems: ill-formed instructions, decoding of words written out from the spec's layouts, single steps with the outcomes of 95_test_vectors.md, and for each
obligation with hypotheses a state and operands that meet them. Expected values are the spec's, not the model's. -/

namespace Sys2Proof.Tests

open Sys2Proof Sys2Proof.Machine

-- One theorem after the other: many elaborated at once ask for more threads than the memory bound has.
set_option Elab.async false

/-! ## Helpers -/

/-- The next state of an outcome, if it has one. -/
def next? : Result → Option State
  | .next s => some s
  | .fault _ => none
  | .refused _ => none

/-- The fault of an outcome, if it is one. -/
def fault? : Result → Option Fault
  | .fault r => some r
  | .next _ => none
  | .refused _ => none

/-- The refusal of an outcome, if it is one. -/
def refusal? : Result → Option Refusal
  | .refused r => some r
  | .next _ => none
  | .fault _ => none

/-- What an outcome appended to the event stream of a state that had none. -/
def evtOf (r : Result) : Option (List Event) := (next? r).map (·.evt)

/-- The transmit stream of an outcome. -/
def txOf (r : Result) : Option (List (List Byte)) := (next? r).map (·.tx)

/-- The reset state with the handshake acquired. -/
def shaken : State := { State.reset with hs := ⟨true, true, some 0⟩ }

/-- The reset state with one queued frame. -/
def queued (shape : Shape) (bytes : List Byte) : State := { State.reset with frameQ := [⟨shape, bytes⟩] }

/-- The reset state with one pending step. -/
def lined (line : List Nat) : State := { State.reset with script := [line] }

/-- The reset state with the transport closed. -/
def closed : State := { State.reset with transportOpen := false }

/-- The status frame `50 30 04` of the source's example. -/
def status4 : LongFrame := ⟨0x50#8, [0x04#8], 0x15#8, 0xD2#8⟩

/-- The event of a CRC-valid trace. -/
def traced (bytes : List Byte) : Event := .frameTrace bytes true

/-! ## Well-formedness refuses ill-formed terms -/

/-- A Long frame without payload (R170), under every command. -/
theorem test_wf_refuses_empty_payload :
    (∀ i ∈ [Instr.rxDirectStatus 0 ⟨0x50#8, [], 0x00#8, 0x00#8⟩, .rxStatusReply 0 ⟨0x50#8, [], 0x00#8, 0x00#8⟩, .rxComposite31 0 ⟨0x50#8, [], 0x00#8, 0x00#8⟩, .rxComposite32 0 ⟨0x50#8, [], 0x00#8, 0x00#8⟩, .rxComposite33 0 ⟨0x50#8, [], 0x00#8, 0x00#8⟩, .rxComposite34 0 ⟨0x50#8, [], 0x00#8, 0x00#8⟩, .rxComposite35 0 ⟨0x50#8, [], 0x00#8, 0x00#8⟩, .rxComposite36 0 ⟨0x50#8, [], 0x00#8, 0x00#8⟩, .rxComposite37 0 ⟨0x50#8, [], 0x00#8, 0x00#8⟩, .rxComposite38 0 ⟨0x50#8, [], 0x00#8, 0x00#8⟩, .rxComposite39 0 ⟨0x50#8, [], 0x00#8, 0x00#8⟩, .rxComposite3a 0 ⟨0x50#8, [], 0x00#8, 0x00#8⟩, .rxComposite3b 0 ⟨0x50#8, [], 0x00#8, 0x00#8⟩, .rxComposite3c 0 ⟨0x50#8, [], 0x00#8, 0x00#8⟩, .rxComposite3d 0 ⟨0x50#8, [], 0x00#8, 0x00#8⟩, .rxComposite3e 0 ⟨0x50#8, [], 0x00#8, 0x00#8⟩, .rxComposite3f 0 ⟨0x50#8, [], 0x00#8, 0x00#8⟩, .rxCompositeTotals 0 ⟨0x50#8, [], 0x00#8, 0x00#8⟩, .rxStatusReplyCd 0 ⟨0x50#8, [], 0x00#8, 0x00#8⟩, .rxAltStatus 0 ⟨0x50#8, [], 0x00#8, 0x00#8⟩, .rxAltVolume 0 ⟨0x50#8, [], 0x00#8, 0x00#8⟩, .rxAltTotals 0 ⟨0x50#8, [], 0x00#8, 0x00#8⟩, .rxAltNozzle 0 ⟨0x50#8, [], 0x00#8, 0x00#8⟩, .rxUnknownCommand 0x99#8 ⟨0x50#8, [], 0x00#8, 0x00#8⟩], i.wf = false) := by decide

/-- A command byte, Short code, `trans` or status code that has a row of its own (R88, R90, R91, R93), at the ends of each range. -/
theorem test_wf_refuses_known_selectors :
    (∀ c ∈ [0x01#8, 0x30#8, 0x3F#8, 0x65#8, 0xCD#8, 0xD1#8, 0xD4#8], (Instr.rxUnknownCommand c status4).wf = false) ∧
    (∀ c ∈ [0x20#8, 0xC0#8, 0x70#8], (Instr.rxUnknownShort c).wf = false) ∧
    (∀ t ∈ [0x01#8, 0x02#8, 0x03#8], (Instr.subUnknownTrans false t []).wf = false) ∧
    (∀ c ∈ [0x00#8, 0x03#8, 0x06#8], (Instr.stUnmapped 0 c).wf = false) ∧
    (∀ c ∈ [0x00#8, 0x03#8, 0x07#8, 0x0B#8], (Instr.stxUnmapped 0 c).wf = false) := by decide

/-- Record data that a length byte cannot count (R89), and preset volumes outside 10 .. 25000 (R194). -/
theorem test_wf_refuses_long_data_and_volumes :
    (∀ i ∈ [Instr.subStatus 0 false (List.replicate 256 0x00#8), .subFilledVolumeAmount false (List.replicate 256 0x00#8),
      .subNozzlePrice (List.replicate 256 0x00#8), .subTotals (List.replicate 256 0x00#8),
      .subUnknownTrans false 0x07#8 (List.replicate 256 0x00#8)], i.wf = false) ∧
    (∀ v ∈ [-1, 0, 9, 25001], (Instr.txPresetVolume 0x50#8 v).wf = false) := by decide +kernel

/-- The neighbours of those bounds are well formed. -/
theorem test_wf_accepts_bounds :
    (Instr.subUnknownTrans true 0x00#8 (List.replicate 255 0x00#8)).wf = true ∧ (Instr.txPresetVolume 0x50#8 10).wf = true ∧
    (Instr.txPresetVolume 0x50#8 25000).wf = true ∧ (Instr.stUnmapped 0 0x07#8).wf = true ∧ (Instr.stxUnmapped 0 0x08#8).wf = true ∧
    (Instr.rxUnknownCommand 0x40#8 status4).wf = true ∧ (Instr.rxUnknownShort 0xFA#8).wf = true := by decide +kernel

/-! ## Decoding of words written out from the spec's layouts: every constructor -/

/-- R81, R88: address, command, payload, CRC, `03 FA`, for each command byte with a row, and one without. -/
theorem test_decode_rx_long :
    decodeRxLong 7 [0x50#8, 0x01#8, 0x07#8, 0x40#8, 0x43#8, 0x03#8, 0xFA#8] =
      .ok (.rxDirectStatus 7 ⟨0x50#8, [0x07#8], 0x40#8, 0x43#8⟩) ∧
    decodeRxLong 7 [0x50#8, 0x30#8, 0x04#8, 0x15#8, 0xD2#8, 0x03#8, 0xFA#8] =
      .ok (.rxStatusReply 7 ⟨0x50#8, [0x04#8], 0x15#8, 0xD2#8⟩) ∧
    decodeRxLong 7 [0x50#8, 0x31#8, 0x01#8, 0x01#8, 0x0B#8, 0xDF#8, 0x67#8, 0x03#8, 0xFA#8] =
      .ok (.rxComposite31 7 ⟨0x50#8, [0x01#8, 0x01#8, 0x0B#8], 0xDF#8, 0x67#8⟩) ∧
    decodeRxLong 7 [0x50#8, 0x32#8, 0x02#8, 0x08#8, 0x00#8, 0x00#8, 0x08#8, 0x00#8, 0x00#8, 0x00#8, 0x12#8, 0x00#8, 0xFF#8, 0x9A#8, 0x03#8, 0xFA#8] =
      .ok (.rxComposite32 7 ⟨0x50#8, [0x02#8, 0x08#8, 0x00#8, 0x00#8, 0x08#8, 0x00#8, 0x00#8, 0x00#8, 0x12#8, 0x00#8], 0xFF#8, 0x9A#8⟩) ∧
    decodeRxLong 7 [0x50#8, 0x33#8, 0x01#8, 0x01#8, 0x04#8, 0x02#8, 0xDB#8, 0x69#8, 0x03#8, 0xFA#8] =
      .ok (.rxComposite33 7 ⟨0x50#8, [0x01#8, 0x01#8, 0x04#8, 0x02#8], 0xDB#8, 0x69#8⟩) ∧
    decodeRxLong 7 [0x50#8, 0x34#8, 0x07#8, 0x02#8, 0xAA#8, 0xBB#8, 0x01#8, 0x01#8, 0x05#8, 0x25#8, 0x69#8, 0x03#8, 0xFA#8] =
      .ok (.rxComposite34 7 ⟨0x50#8, [0x07#8, 0x02#8, 0xAA#8, 0xBB#8, 0x01#8, 0x01#8, 0x05#8], 0x25#8, 0x69#8⟩) ∧
    decodeRxLong 7 [0x50#8, 0x35#8, 0x09#8, 0x00#8, 0x01#8, 0x01#8, 0x00#8, 0xD9#8, 0xF1#8, 0x03#8, 0xFA#8] =
      .ok (.rxComposite35 7 ⟨0x50#8, [0x09#8, 0x00#8, 0x01#8, 0x01#8, 0x00#8], 0xD9#8, 0xF1#8⟩) ∧
    decodeRxLong 7 [0x50#8, 0x36#8, 0x01#8, 0x01#8, 0x04#8, 0x02#8, 0x08#8, 0x00#8, 0x00#8, 0x02#8, 0x50#8, 0x00#8, 0x00#8, 0x03#8, 0x75#8, 0x01#8, 0x01#8, 0x05#8, 0xD7#8, 0x75#8, 0x03#8, 0xFA#8] =
      .ok (.rxComposite36 7 ⟨0x50#8, [0x01#8, 0x01#8, 0x04#8, 0x02#8, 0x08#8, 0x00#8, 0x00#8, 0x02#8, 0x50#8, 0x00#8, 0x00#8, 0x03#8, 0x75#8, 0x01#8, 0x01#8, 0x05#8], 0xD7#8, 0x75#8⟩) ∧
    decodeRxLong 7 [0x50#8, 0x37#8, 0x01#8, 0x01#8, 0x02#8, 0xAA#8, 0xBB#8, 0x03#8, 0xFA#8] =
      .ok (.rxComposite37 7 ⟨0x50#8, [0x01#8, 0x01#8, 0x02#8], 0xAA#8, 0xBB#8⟩) ∧
    decodeRxLong 7 [0x50#8, 0x38#8, 0x01#8, 0x01#8, 0x02#8, 0xAA#8, 0xBB#8, 0x03#8, 0xFA#8] =
      .ok (.rxComposite38 7 ⟨0x50#8, [0x01#8, 0x01#8, 0x02#8], 0xAA#8, 0xBB#8⟩) ∧
    decodeRxLong 7 [0x50#8, 0x39#8, 0x01#8, 0x01#8, 0x02#8, 0xAA#8, 0xBB#8, 0x03#8, 0xFA#8] =
      .ok (.rxComposite39 7 ⟨0x50#8, [0x01#8, 0x01#8, 0x02#8], 0xAA#8, 0xBB#8⟩) ∧
    decodeRxLong 7 [0x50#8, 0x3A#8, 0x01#8, 0x01#8, 0x02#8, 0xAA#8, 0xBB#8, 0x03#8, 0xFA#8] =
      .ok (.rxComposite3a 7 ⟨0x50#8, [0x01#8, 0x01#8, 0x02#8], 0xAA#8, 0xBB#8⟩) ∧
    decodeRxLong 7 [0x50#8, 0x3B#8, 0x01#8, 0x01#8, 0x02#8, 0xAA#8, 0xBB#8, 0x03#8, 0xFA#8] =
      .ok (.rxComposite3b 7 ⟨0x50#8, [0x01#8, 0x01#8, 0x02#8], 0xAA#8, 0xBB#8⟩) ∧
    decodeRxLong 7 [0x50#8, 0x3C#8, 0x65#8, 0x01#8, 0x01#8, 0x1C#8, 0x13#8, 0x03#8, 0xFA#8] =
      .ok (.rxComposite3c 7 ⟨0x50#8, [0x65#8, 0x01#8, 0x01#8], 0x1C#8, 0x13#8⟩) ∧
    decodeRxLong 7 [0x50#8, 0x3D#8, 0x01#8, 0x01#8, 0x02#8, 0xAA#8, 0xBB#8, 0x03#8, 0xFA#8] =
      .ok (.rxComposite3d 7 ⟨0x50#8, [0x01#8, 0x01#8, 0x02#8], 0xAA#8, 0xBB#8⟩) ∧
    decodeRxLong 7 [0x50#8, 0x3E#8, 0x01#8, 0x01#8, 0x02#8, 0xAA#8, 0xBB#8, 0x03#8, 0xFA#8] =
      .ok (.rxComposite3e 7 ⟨0x50#8, [0x01#8, 0x01#8, 0x02#8], 0xAA#8, 0xBB#8⟩) ∧
    decodeRxLong 7 [0x50#8, 0x3F#8, 0x02#8, 0x08#8, 0x1A#8, 0xF2#8, 0xB0#8, 0x0C#8, 0x00#8, 0x00#8, 0x00#8, 0x99#8, 0x51#8, 0x39#8, 0x03#8, 0xFA#8] =
      .ok (.rxComposite3f 7 ⟨0x50#8, [0x02#8, 0x08#8, 0x1A#8, 0xF2#8, 0xB0#8, 0x0C#8, 0x00#8, 0x00#8, 0x00#8, 0x99#8], 0x51#8, 0x39#8⟩) ∧
    decodeRxLong 7 [0x50#8, 0x65#8, 0x02#8, 0x08#8, 0x00#8, 0x00#8, 0x01#8, 0x00#8, 0x00#8, 0x00#8, 0x02#8, 0x00#8, 0xE9#8, 0xB6#8, 0x03#8, 0xFA#8] =
      .ok (.rxCompositeTotals 7 ⟨0x50#8, [0x02#8, 0x08#8, 0x00#8, 0x00#8, 0x01#8, 0x00#8, 0x00#8, 0x00#8, 0x02#8, 0x00#8], 0xE9#8, 0xB6#8⟩) ∧
    decodeRxLong 7 [0x50#8, 0xCD#8, 0x01#8, 0x95#8, 0x41#8, 0x03#8, 0xFA#8] =
      .ok (.rxStatusReplyCd 7 ⟨0x50#8, [0x01#8], 0x95#8, 0x41#8⟩) ∧
    decodeRxLong 7 [0x50#8, 0xD1#8, 0x01#8, 0x01#8, 0x02#8, 0xAA#8, 0xBB#8, 0x03#8, 0xFA#8] =
      .ok (.rxAltStatus 7 ⟨0x50#8, [0x01#8, 0x01#8, 0x02#8], 0xAA#8, 0xBB#8⟩) ∧
    decodeRxLong 7 [0x50#8, 0xD2#8, 0x00#8, 0x5C#8, 0xB1#8, 0x03#8, 0xFA#8] =
      .ok (.rxAltVolume 7 ⟨0x50#8, [0x00#8], 0x5C#8, 0xB1#8⟩) ∧
    decodeRxLong 7 [0x50#8, 0xD3#8, 0x01#8, 0x01#8, 0x02#8, 0xAA#8, 0xBB#8, 0x03#8, 0xFA#8] =
      .ok (.rxAltTotals 7 ⟨0x50#8, [0x01#8, 0x01#8, 0x02#8], 0xAA#8, 0xBB#8⟩) ∧
    decodeRxLong 7 [0x50#8, 0xD4#8, 0x01#8, 0x01#8, 0x02#8, 0xAA#8, 0xBB#8, 0x03#8, 0xFA#8] =
      .ok (.rxAltNozzle 7 ⟨0x50#8, [0x01#8, 0x01#8, 0x02#8], 0xAA#8, 0xBB#8⟩) ∧
    decodeRxLong 7 [0x50#8, 0x99#8, 0x01#8, 0x02#8, 0x03#8, 0xFE#8, 0x31#8, 0x03#8, 0xFA#8] =
      .ok (.rxUnknownCommand 0x99#8 ⟨0x50#8, [0x01#8, 0x02#8, 0x03#8], 0xFE#8, 0x31#8⟩) := by decide +kernel

/-- R82, R93. -/
theorem test_decode_rx_short :
    decodeRxShort [0x50#8, 0x20#8, 0xFA#8] = .ok (.rxPollEcho) ∧
    decodeRxShort [0x50#8, 0xC0#8, 0xFA#8] = .ok (.rxAckEcho) ∧
    decodeRxShort [0x50#8, 0x70#8, 0xFA#8] = .ok (.rxBusy) ∧
    decodeRxShort [0x50#8, 0xFA#8, 0xFA#8] = .ok (.rxUnknownShort 0xFA#8) := by decide

/-- R89, R90: `trans`, length, data; `0x03` by the outer command. -/
theorem test_decode_sub_records :
    decodeSubRec 7 false [0x01#8, 0x01#8, 0x04#8] = .ok (.subStatus 7 false [0x04#8]) ∧
    decodeSubRec 7 true [0x02#8, 0x08#8, 0x00#8, 0x00#8, 0x08#8, 0x00#8, 0x00#8, 0x00#8, 0x12#8, 0x00#8] = .ok (.subFilledVolumeAmount true [0x00#8, 0x00#8, 0x08#8, 0x00#8, 0x00#8, 0x00#8, 0x12#8, 0x00#8]) ∧
    decodeSubRec 7 false [0x03#8, 0x04#8, 0x00#8, 0x12#8, 0x50#8, 0x11#8] = .ok (.subNozzlePrice [0x00#8, 0x12#8, 0x50#8, 0x11#8]) ∧
    decodeSubRec 7 true [0x03#8, 0x10#8, 0x01#8, 0x00#8, 0x00#8, 0x12#8, 0x34#8, 0x56#8, 0x00#8, 0x00#8, 0x00#8, 0x78#8, 0x90#8, 0x00#8, 0x00#8, 0x00#8, 0x00#8, 0x01#8] =
      .ok (.subTotals [0x01#8, 0x00#8, 0x00#8, 0x12#8, 0x34#8, 0x56#8, 0x00#8, 0x00#8, 0x00#8, 0x78#8, 0x90#8, 0x00#8, 0x00#8, 0x00#8, 0x00#8, 0x01#8]) ∧
    decodeSubRec 7 false [0x07#8, 0x02#8, 0xAA#8, 0xBB#8] = .ok (.subUnknownTrans false 0x07#8 [0xAA#8, 0xBB#8]) ∧
    decodeSubRec 7 true [0x09#8, 0x00#8] = .ok (.subUnknownTrans true 0x09#8 []) := by decide

/-- R91: the two tables, with codes that only one of them has. -/
theorem test_decode_status_codes :
    decodeStatusBase 7 0x00#8 = .stNotProgrammed 7 ∧
    decodeStatusBase 7 0x01#8 = .stReset 7 ∧
    decodeStatusBase 7 0x02#8 = .stAuthorized 7 ∧
    decodeStatusBase 7 0x03#8 = .stCode03 7 ∧
    decodeStatusBase 7 0x04#8 = .stFilling 7 ∧
    decodeStatusBase 7 0x05#8 = .stFillingCompleted 7 ∧
    decodeStatusBase 7 0x06#8 = .stMaxAmountVolume 7 ∧
    decodeStatusBase 7 0x07#8 = .stUnmapped 7 0x07#8 ∧
    decodeStatusBase 7 0x0B#8 = .stUnmapped 7 0x0B#8 ∧
    decodeStatusExt 7 0x00#8 = .stxNotProgrammed 7 ∧
    decodeStatusExt 7 0x01#8 = .stxReset 7 ∧
    decodeStatusExt 7 0x02#8 = .stxAuthorized 7 ∧
    decodeStatusExt 7 0x03#8 = .stxCode03 7 ∧
    decodeStatusExt 7 0x04#8 = .stxFilling 7 ∧
    decodeStatusExt 7 0x05#8 = .stxFillingCompleted 7 ∧
    decodeStatusExt 7 0x06#8 = .stxMaxAmountVolume 7 ∧
    decodeStatusExt 7 0x07#8 = .stxSwitchedOff 7 ∧
    decodeStatusExt 7 0x0B#8 = .stxSuspended 7 ∧
    decodeStatusExt 7 0x08#8 = .stxUnmapped 7 0x08#8 ∧
    decodeStatusExt 7 0x0C#8 = .stxUnmapped 7 0x0C#8 := by decide

/-- R84 to R87, with the bytes of V-ENC-3h, V-ENC-4d, V-ENC-5, V-ENC-6d, V-ENC-8b and V-ENC-9; the selector `30 03 01` is generic and `30 03 04` is the preset. -/
theorem test_decode_outbound :
    decodeTxLong .loHi [0x50#8, 0x30#8, 0x03#8, 0x04#8, 0x00#8, 0x00#8, 0x08#8, 0x00#8, 0xC3#8, 0x0C#8, 0x03#8, 0xFA#8] = .ok (.txPresetVolume 0x50#8 800) ∧
    decodeTxLong .loHi [0x50#8, 0x30#8, 0x03#8, 0x04#8, 0x00#8, 0x02#8, 0x50#8, 0x00#8, 0x59#8, 0x0C#8, 0x03#8, 0xFA#8] = .ok (.txPresetVolume 0x50#8 25000) ∧
    decodeTxLong .loHi [0x51#8, 0x30#8, 0x03#8, 0x01#8, 0x00#8, 0x03#8, 0x5C#8, 0x03#8, 0xFA#8] = .ok (.txGeneric 0x51#8 0x03#8 0x00#8) ∧
    decodeTxLong .hiLo [0x50#8, 0x30#8, 0x01#8, 0x01#8, 0x06#8, 0x5E#8, 0x1F#8, 0x03#8, 0xFA#8] = .ok (.txGeneric 0x50#8 0x01#8 0x06#8) ∧
    decodeTxLong .loHi [0x01#8, 0x3C#8, 0x65#8, 0x01#8, 0x01#8, 0xE1#8, 0xDF#8, 0x03#8, 0xFA#8] = .ok (.txTotalsRequest 0x01#8 0x01#8) ∧
    decodeTxShort [0x50#8, 0x20#8, 0xFA#8] = .ok .txMinPoll ∧
    decodeTxShort [0x50#8, 0xC0#8, 0xFA#8] = .ok .txMinAck := by decide +kernel

/-- R350: the eleven operations. -/
theorem test_decode_host :
    decodeHost [0, 6] = .ok (.hostSendGeneric 0x06#8) ∧
    decodeHost [1, 0, 800] = .ok (.hostSendPresetVolume 800) ∧
    decodeHost [1, 1, 3] = .ok (.hostSendPresetVolume (-3)) ∧
    decodeHost [2] = .ok (.hostSendTotalsRequest) ∧
    decodeHost [3] = .ok (.hostSendMinPoll) ∧
    decodeHost [4] = .ok (.hostSendMinAck) ∧
    decodeHost [5, 1] = .ok (.hostSetCrcOrder .hiLo) ∧
    decodeHost [6, 0] = .ok (.hostSetAutoAck false) ∧
    decodeHost [7, 1, 250] = .ok (.hostSetAutoPoll true 250) ∧
    decodeHost [8, 81] = .ok (.hostTransportOpen 0x51#8) ∧
    decodeHost [9] = .ok (.hostTransportClose) ∧
    decodeHost [10, 2] = .ok (.hostIntentHint .authorized) := by decide

/-- R97: the six steps. -/
theorem test_decode_step :
    decodeStep [0, 250] = .ok (.stepRxByte 0xFA#8) ∧
    decodeStep [1, 3] = .ok (.stepDispatch 3) ∧
    decodeStep [2] = .ok (.stepTimerFire) ∧
    decodeStep [3, 0, 6] = .ok (.stepHost (.sendGeneric 0x06#8)) ∧
    decodeStep [4] = .ok (.stepTransportFault) ∧
    decodeStep [5] = .ok (.stepSessionReset none) ∧
    decodeStep [5, 41, 123400] = .ok (.stepSessionReset (some ⟨41, 123400⟩)) := by decide

/-- The decoders reject by name. -/
theorem test_decode_rejects :
    decodeRxLong 0 [0x50#8, 0x30#8, 0x04#8, 0x15#8, 0x03#8, 0xFA#8] = .error (.frameTooShort 6) ∧
    decodeRxLong 0 [0x50#8, 0x30#8, 0x04#8, 0x15#8, 0xD2#8, 0x04#8, 0xFA#8] = .error (.badEtx 0x04#8) ∧
    decodeRxLong 0 [0x50#8, 0x30#8, 0x04#8, 0x15#8, 0xD2#8, 0x03#8, 0xFB#8] = .error (.badTrailer 0xFB#8) ∧
    decodeRxShort [0x51#8, 0x20#8, 0xFA#8] = .error (.badLead 0x51#8) ∧
    decodeRxShort [0x50#8, 0x20#8] = .error (.badShortLength 2) ∧
    decodeSubRec 0 false [0x01#8, 0x02#8, 0x04#8] = .error (.recordLength 2 1) ∧
    decodeSubRec 0 false [0x01#8] = .error (.recordTooShort 1) ∧
    decodeTxLong .loHi [0x50#8, 0x30#8, 0x01#8, 0x01#8, 0x06#8, 0x5E#8, 0x1F#8, 0x03#8, 0xFA#8] = .error .badClosing ∧
    decodeTxLong .loHi [0x50#8, 0x31#8, 0x01#8, 0x01#8, 0x06#8, 0x1F#8, 0x5E#8, 0x03#8, 0xFA#8] = .error .notOutbound ∧
    decodeTxShort [0x50#8, 0x70#8, 0xFA#8] = .error .notOutbound ∧
    decodeHost [11] = .error (.unknownHostOp 11) ∧
    decodeHost [0, 256] = .error (.byteOutOfRange 256) ∧
    decodeHost [1, 1, 0] = .error (.badSign 1) ∧
    decodeHost [5, 2] = .error (.badCrcOrder 2) ∧
    decodeHost [6, 2] = .error (.badFlag 2) ∧
    decodeHost [10, 8] = .error (.badPumpState 8) ∧
    decodeHost [9, 0] = .error (.badOperands 9 1) ∧
    decodeStep [] = .error .emptyLine ∧
    decodeStep [6] = .error (.unknownStep 6) ∧
    decodeStep [2, 0] = .error (.badOperands 2 1) := by decide +kernel

/-! ## Single steps, with the outcomes of 95_test_vectors.md -/

/-- Program P1. -/
theorem test_dispatch_status_filling :
    evtOf (exec (.stepDispatch 3) (queued .long [0x50#8, 0x30#8, 0x04#8, 0x15#8, 0xD2#8, 0x03#8, 0xFA#8])) =
      some [traced [0x50#8, 0x30#8, 0x04#8, 0x15#8, 0xD2#8, 0x03#8, 0xFA#8], .handshakeAcquired, .statusChanged .filling, .saleOpened] ∧
    txOf (exec (.stepDispatch 3) (queued .long [0x50#8, 0x30#8, 0x04#8, 0x15#8, 0xD2#8, 0x03#8, 0xFA#8])) = some [[0x50#8, 0xC0#8, 0xFA#8]] := by decide +kernel

/-- V-DEC-I. -/
theorem test_dispatch_direct_status :
    evtOf (exec (.stepDispatch 3) (queued .long [0x50#8, 0x01#8, 0x0B#8, 0x40#8, 0x46#8, 0x03#8, 0xFA#8])) =
      some [traced [0x50#8, 0x01#8, 0x0B#8, 0x40#8, 0x46#8, 0x03#8, 0xFA#8], .handshakeAcquired, .statusChanged .suspended] ∧
    txOf (exec (.stepDispatch 3) (queued .long [0x50#8, 0x01#8, 0x0B#8, 0x40#8, 0x46#8, 0x03#8, 0xFA#8])) = some [[0x50#8, 0xC0#8, 0xFA#8]] := by decide +kernel

/-- V-DEC-N. -/
theorem test_dispatch_direct_status_length :
    evtOf (exec (.stepDispatch 3) (queued .long [0x50#8, 0x01#8, 0x07#8, 0x05#8, 0x82#8, 0xF3#8, 0x03#8, 0xFA#8])) =
      some [traced [0x50#8, 0x01#8, 0x07#8, 0x05#8, 0x82#8, 0xF3#8, 0x03#8, 0xFA#8], .decodeWarning (.lengthMismatch 5 0), .decodeWarning (.badPayloadShape 2)] ∧
    txOf (exec (.stepDispatch 3) (queued .long [0x50#8, 0x01#8, 0x07#8, 0x05#8, 0x82#8, 0xF3#8, 0x03#8, 0xFA#8])) = some [[0x50#8, 0xC0#8, 0xFA#8]] := by decide +kernel

/-- V-DEC-L. -/
theorem test_dispatch_status_cd :
    evtOf (exec (.stepDispatch 3) (queued .long [0x50#8, 0xCD#8, 0x01#8, 0x95#8, 0x41#8, 0x03#8, 0xFA#8])) =
      some [traced [0x50#8, 0xCD#8, 0x01#8, 0x95#8, 0x41#8, 0x03#8, 0xFA#8], .handshakeAcquired, .statusChanged .reset] ∧
    txOf (exec (.stepDispatch 3) (queued .long [0x50#8, 0xCD#8, 0x01#8, 0x95#8, 0x41#8, 0x03#8, 0xFA#8])) = some [[0x50#8, 0xC0#8, 0xFA#8]] := by decide +kernel

/-- V-DEC-X. -/
theorem test_dispatch_unmapped_base :
    evtOf (exec (.stepDispatch 3) (queued .long [0x50#8, 0x30#8, 0x0B#8, 0x55#8, 0xD6#8, 0x03#8, 0xFA#8])) =
      some [traced [0x50#8, 0x30#8, 0x0B#8, 0x55#8, 0xD6#8, 0x03#8, 0xFA#8], .handshakeAcquired, .decodeWarning (.unknownStatus 0x0B#8)] ∧
    txOf (exec (.stepDispatch 3) (queued .long [0x50#8, 0x30#8, 0x0B#8, 0x55#8, 0xD6#8, 0x03#8, 0xFA#8])) = some [[0x50#8, 0xC0#8, 0xFA#8]] := by decide +kernel

/-- V-DEC-A. -/
theorem test_dispatch_composite :
    evtOf (exec (.stepDispatch 3) (queued .long [0x50#8, 0x31#8, 0x01#8, 0x01#8, 0x02#8, 0x03#8, 0x04#8, 0x00#8, 0x12#8, 0x50#8, 0x11#8, 0x12#8, 0x5D#8, 0x03#8, 0xFA#8])) =
      some [traced [0x50#8, 0x31#8, 0x01#8, 0x01#8, 0x02#8, 0x03#8, 0x04#8, 0x00#8, 0x12#8, 0x50#8, 0x11#8, 0x12#8, 0x5D#8, 0x03#8, 0xFA#8], .handshakeAcquired, .statusChanged .authorized, .saleOpened, .nozzleChanged true] ∧
    txOf (exec (.stepDispatch 3) (queued .long [0x50#8, 0x31#8, 0x01#8, 0x01#8, 0x02#8, 0x03#8, 0x04#8, 0x00#8, 0x12#8, 0x50#8, 0x11#8, 0x12#8, 0x5D#8, 0x03#8, 0xFA#8])) = some [[0x50#8, 0xC0#8, 0xFA#8]] := by decide +kernel

/-- V-DEC-D. -/
theorem test_dispatch_composite_truncated :
    evtOf (exec (.stepDispatch 3) (queued .long [0x50#8, 0x33#8, 0x01#8, 0x01#8, 0x04#8, 0x02#8, 0x08#8, 0x00#8, 0x00#8, 0xDF#8, 0xA9#8, 0x03#8, 0xFA#8])) =
      some [traced [0x50#8, 0x33#8, 0x01#8, 0x01#8, 0x04#8, 0x02#8, 0x08#8, 0x00#8, 0x00#8, 0xDF#8, 0xA9#8, 0x03#8, 0xFA#8], .handshakeAcquired, .statusChanged .filling, .saleOpened, .decodeWarning (.subRecordTruncated 3)] ∧
    txOf (exec (.stepDispatch 3) (queued .long [0x50#8, 0x33#8, 0x01#8, 0x01#8, 0x04#8, 0x02#8, 0x08#8, 0x00#8, 0x00#8, 0xDF#8, 0xA9#8, 0x03#8, 0xFA#8])) = some [[0x50#8, 0xC0#8, 0xFA#8]] := by decide +kernel

/-- V-DEC-AD. -/
theorem test_dispatch_whole_sale :
    evtOf (exec (.stepDispatch 3) (queued .long [0x50#8, 0x36#8, 0x01#8, 0x01#8, 0x04#8, 0x02#8, 0x08#8, 0x00#8, 0x00#8, 0x02#8, 0x50#8, 0x00#8, 0x00#8, 0x03#8, 0x75#8, 0x01#8, 0x01#8, 0x05#8, 0xD7#8, 0x75#8, 0x03#8, 0xFA#8])) =
      some [traced [0x50#8, 0x36#8, 0x01#8, 0x01#8, 0x04#8, 0x02#8, 0x08#8, 0x00#8, 0x00#8, 0x02#8, 0x50#8, 0x00#8, 0x00#8, 0x03#8, 0x75#8, 0x01#8, 0x01#8, 0x05#8, 0xD7#8, 0x75#8, 0x03#8, 0xFA#8], .handshakeAcquired, .statusChanged .filling, .saleOpened,
        .volumeSample 250 375, .statusChanged .fillingCompleted, .countersSave 1 250] ∧
    txOf (exec (.stepDispatch 3) (queued .long [0x50#8, 0x36#8, 0x01#8, 0x01#8, 0x04#8, 0x02#8, 0x08#8, 0x00#8, 0x00#8, 0x02#8, 0x50#8, 0x00#8, 0x00#8, 0x03#8, 0x75#8, 0x01#8, 0x01#8, 0x05#8, 0xD7#8, 0x75#8, 0x03#8, 0xFA#8])) = some [[0x50#8, 0xC0#8, 0xFA#8]] := by decide +kernel

/-- V-DEC-M. -/
theorem test_dispatch_totals :
    evtOf (exec (.stepDispatch 3) (queued .long [0x50#8, 0x65#8, 0x01#8, 0x01#8, 0x01#8, 0x03#8, 0x10#8, 0x01#8, 0x00#8, 0x00#8, 0x12#8, 0x34#8, 0x56#8, 0x00#8, 0x00#8, 0x00#8, 0x78#8, 0x90#8, 0x00#8, 0x00#8, 0x00#8, 0x00#8, 0x01#8, 0x95#8, 0x80#8, 0x03#8, 0xFA#8])) =
      some [traced [0x50#8, 0x65#8, 0x01#8, 0x01#8, 0x01#8, 0x03#8, 0x10#8, 0x01#8, 0x00#8, 0x00#8, 0x12#8, 0x34#8, 0x56#8, 0x00#8, 0x00#8, 0x00#8, 0x78#8, 0x90#8, 0x00#8, 0x00#8, 0x00#8, 0x00#8, 0x01#8, 0x95#8, 0x80#8, 0x03#8, 0xFA#8], .decodeWarning (.lengthMismatch 1 19), .handshakeAcquired,
        .statusChanged .reset, .totalsReport 0x01#8 123456 7890 1] ∧
    txOf (exec (.stepDispatch 3) (queued .long [0x50#8, 0x65#8, 0x01#8, 0x01#8, 0x01#8, 0x03#8, 0x10#8, 0x01#8, 0x00#8, 0x00#8, 0x12#8, 0x34#8, 0x56#8, 0x00#8, 0x00#8, 0x00#8, 0x78#8, 0x90#8, 0x00#8, 0x00#8, 0x00#8, 0x00#8, 0x01#8, 0x95#8, 0x80#8, 0x03#8, 0xFA#8])) = some [[0x50#8, 0xC0#8, 0xFA#8]] := by decide +kernel

/-- V-DEC-G. -/
theorem test_dispatch_unknown_command :
    evtOf (exec (.stepDispatch 3) (queued .long [0x50#8, 0x99#8, 0x01#8, 0x02#8, 0x03#8, 0xFE#8, 0x31#8, 0x03#8, 0xFA#8])) =
      some [traced [0x50#8, 0x99#8, 0x01#8, 0x02#8, 0x03#8, 0xFE#8, 0x31#8, 0x03#8, 0xFA#8], .decodeWarning (.lengthMismatch 2 1), .decodeWarning (.unknownCommand 0x99#8)] ∧
    txOf (exec (.stepDispatch 3) (queued .long [0x50#8, 0x99#8, 0x01#8, 0x02#8, 0x03#8, 0xFE#8, 0x31#8, 0x03#8, 0xFA#8])) = some [[0x50#8, 0xC0#8, 0xFA#8]] := by decide +kernel

/-- V-DEC-S1: no acknowledge. -/
theorem test_dispatch_poll_echo :
    evtOf (exec (.stepDispatch 3) (queued .short [0x50#8, 0x20#8, 0xFA#8])) =
      some [traced [0x50#8, 0x20#8, 0xFA#8]] ∧
    txOf (exec (.stepDispatch 3) (queued .short [0x50#8, 0x20#8, 0xFA#8])) = some [] := by decide +kernel

/-- V-DEC-S4. -/
theorem test_dispatch_unknown_short :
    evtOf (exec (.stepDispatch 3) (queued .short [0x50#8, 0xFA#8, 0xFA#8])) =
      some [traced [0x50#8, 0xFA#8, 0xFA#8], .decodeWarning (.unknownShortCode 0xFA#8)] ∧
    txOf (exec (.stepDispatch 3) (queued .short [0x50#8, 0xFA#8, 0xFA#8])) = some [] := by decide +kernel

/-- V-DEC-P: a CRC failure gives the trace only. -/
theorem test_dispatch_bad_crc :
    evtOf (exec (.stepDispatch 3) (queued .long [0x50#8, 0x30#8, 0x04#8, 0x14#8, 0xD2#8, 0x03#8, 0xFA#8])) = some [.frameTrace [0x50#8, 0x30#8, 0x04#8, 0x14#8, 0xD2#8, 0x03#8, 0xFA#8] false] ∧
    txOf (exec (.stepDispatch 3) (queued .long [0x50#8, 0x30#8, 0x04#8, 0x14#8, 0xD2#8, 0x03#8, 0xFA#8])) = some [] := by decide +kernel

/-- V-DEC-Q: an alternate frame without `ALT_DECODE` is refused. -/
theorem test_dispatch_alternate_refused :
    refusal? (exec (.stepDispatch 3) (queued .long [0x50#8, 0xD2#8, 0x00#8, 0x5C#8, 0xB1#8, 0x03#8, 0xFA#8])) = some (.altFrameLayoutUnknown 0xD2#8) := by decide +kernel

/-- V-HOST-4: a frame dispatched while closed is lost. -/
theorem test_dispatch_closed :
    evtOf (exec (.stepDispatch 3) { queued .long [0x50#8, 0x30#8, 0x04#8, 0x15#8, 0xD2#8, 0x03#8, 0xFA#8] with transportOpen := false }) =
      some [.softFail .decodeAfterClose] := by decide

/-- P3, step 4: a Busy sends the deferred AUTHORIZE. -/
theorem test_busy_authorizes :
    txOf (exec .rxBusy { shaken with sale := { Sale.initial with authorizePending := true } }) =
      some [[0x50#8, 0x30#8, 0x01#8, 0x01#8, 0x06#8, 0x1F#8, 0x5E#8, 0x03#8, 0xFA#8]] := by decide +kernel

/-- P3, steps 8 and 9: no STOP at 750, the STOP at 800, under a target of 8000 ml. -/
theorem test_volume_stop_at_target :
    txOf (exec (.subFilledVolumeAmount false [0x00#8, 0x00#8, 0x07#8, 0x50#8, 0x00#8, 0x00#8, 0x11#8, 0x25#8]) { shaken with sale := { Sale.initial with presetTargetMl := some 8000, active := true } }) = some [] ∧
    txOf (exec (.subFilledVolumeAmount false [0x00#8, 0x00#8, 0x08#8, 0x00#8, 0x00#8, 0x00#8, 0x12#8, 0x00#8]) { shaken with sale := { Sale.initial with presetTargetMl := some 8000, active := true } }) =
      some [[0x50#8, 0x30#8, 0x01#8, 0x01#8, 0x08#8, 0x9E#8, 0x9A#8, 0x03#8, 0xFA#8]] := by decide +kernel

/-- V-DEC-U2: bits 7:5 are ignored, invalid nibbles read as 0. -/
theorem test_nozzle_price :
    (next? (exec (.subNozzlePrice [0x0A#8, 0xB9#8, 0x9C#8, 0x2F#8]) State.reset)).map (fun s => (s.nozzleOut, s.lastNozzle, s.lastPriceRaw)) =
      some (some false, some 15#4, some 990) := by decide

/-- V-TR-2, last frame: the bump reads the last sample before it is cleared. -/
theorem test_reset_class_ends_sale :
    (next? (exec (.stReset 3) { shaken with
        pumpState := .filling
        counters := ⟨5, 1000⟩
        sale := { Sale.initial with active := true, hasVolumeSample := true, lastVolumeCl := 325, lastAmountC := 488 } })).map
          (fun s => (s.counters, s.sale, s.evt)) =
      some (⟨6, 1325⟩, { Sale.initial with countersBumped := true }, [.statusChanged .reset, .countersSave 6 1325]) := by decide

/-- R263: code 3 is unmapped; with `STATUS_CODE_03 = Suspended` it is that state (V-DEC-R). -/
theorem test_code_03 :
    evtOf (exec (.stxCode03 3) shaken) = some [.decodeWarning (.unknownStatus 0x03#8)] ∧
    evtOf (exec (.stxCode03 3) { shaken with cfg := { Config.Params.default with statusCode03 := some .suspended } }) =
      some [.statusChanged .suspended] := by decide

/-- V-HS-1: the gate before the handshake. -/
theorem test_gate :
    evtOf (exec (.hostSendGeneric 0x06#8) State.reset) = some [.commandRefused .noHandshake] ∧
    txOf (exec (.hostSendGeneric 0x04#8) State.reset) = some [[0x50#8, 0x30#8, 0x01#8, 0x01#8, 0x04#8, 0x9E#8, 0x9F#8, 0x03#8, 0xFA#8]] := by decide +kernel

/-- V-TR-7 and V-HOST-5: a preset is clamped and arms the watch; a second one is refused. -/
theorem test_preset :
    (next? (exec (.hostSendPresetVolume 30000) shaken)).map (fun s => (s.tx, s.sale)) =
      some ([[0x50#8, 0x30#8, 0x03#8, 0x04#8, 0x00#8, 0x02#8, 0x50#8, 0x00#8, 0x59#8, 0x0C#8, 0x03#8, 0xFA#8]],
        { Sale.initial with presetTargetMl := some 250000, cd3SentThisSale := true, authorizePending := true }) ∧
    evtOf (exec (.hostSendPresetVolume 500) { shaken with sale := { Sale.initial with cd3SentThisSale := true } }) =
      some [.commandRefused .presetAlreadySent] := by decide +kernel

/-- V-TR-8: a preset while closed arms nothing. -/
theorem test_preset_closed :
    (next? (exec (.hostSendPresetVolume 800) { shaken with transportOpen := false })).map (fun s => (s.evt, s.sale)) =
      some ([.sendFailed], Sale.initial) := by decide +kernel

/-- V-HOST-1: the totals request under `HI_LO`. -/
theorem test_totals_request_hi_lo :
    txOf (exec .hostSendTotalsRequest { State.reset with crcOrder := .hiLo }) = some [[0x50#8, 0x3C#8, 0x65#8, 0x01#8, 0x01#8, 0x13#8, 0x1C#8, 0x03#8, 0xFA#8]] := by decide +kernel

/-- V-HOST-3 and V-HS-4: the timer under a fault, and while not enabled. -/
theorem test_timer :
    evtOf (exec .stepTimerFire { State.reset with txFaulted := true }) = some [.sendFailed] ∧
    next? (exec .stepTimerFire { State.reset with autoPoll := false }) = some { State.reset with autoPoll := false } := by decide

/-- V-FSM-2: a hint before and after the handshake. -/
theorem test_hint :
    next? (exec (.hostIntentHint .authorized) State.reset) = some State.reset ∧
    (next? (exec (.hostIntentHint .authorized) shaken)).map displayState = some .authorized := by decide

/-- V-FC-2, V-FC-3 and V-FC-13: the last byte of a Long frame, a provisional trailer, a Long frame that begins like a Short one. -/
theorem test_rx_byte :
    (next? (exec (.stepRxByte 0xFA#8) { State.reset with rxBuf := [0x50#8, 0x30#8, 0x04#8, 0x15#8, 0xD2#8, 0x03#8] })).map (fun s => (s.frameQ, s.rxBuf)) =
      some ([⟨.long, [0x50#8, 0x30#8, 0x04#8, 0x15#8, 0xD2#8, 0x03#8, 0xFA#8]⟩], []) ∧
    (next? (exec (.stepRxByte 0xFA#8) { State.reset with rxBuf := [0x50#8, 0x30#8, 0x64#8, 0x15#8] })).map (fun s => (s.frameQ, s.rxBuf)) =
      some ([], [0x50#8, 0x30#8, 0x64#8, 0x15#8, 0xFA#8]) ∧
    (next? (exec (.stepRxByte 0xFA#8) { State.reset with rxBuf := [0x50#8, 0x30#8] })).map (fun s => (s.frameQ, s.rxBuf)) =
      some ([⟨.short, [0x50#8, 0x30#8, 0xFA#8]⟩], []) := by decide

/-- Table numbers: a frame, a sub-record, an outbound frame, a step and an operation decode to their rows, and the next step runs them. -/
theorem test_table_words :
    decodeTableWord 8 0x30 = some (.rxStatusReply 0 ⟨0x00#8, [0x00#8], 0x14#8, 0x00#8⟩) ∧
    decodeTableWord 24 0x5070FA = some .rxBusy ∧ decodeTableWord 8 0x04 = some .stepTransportFault ∧
    decodeTableWord 8 0x09 = some .hostTransportClose ∧
    evtOf (step (State.reset.withFetchWord 24 0x5070FA)) = some [traced [0x50#8, 0x70#8, 0xFA#8]] ∧
    evtOf (step (State.reset.withFetchWord 8 0x04)) = some [.transportFault] ∧
    (next? (step (State.reset.withFetchWord 8 0x09))).map (·.transportOpen) = some false := by decide +kernel
/-! ## For each obligation with hypotheses, a state and operands that meet them -/

/-- A state in which a sale is under way, nothing of it counted. -/
def inSale : State := { shaken with pumpState := .filling, sale := { Sale.initial with active := true, hasVolumeSample := true, lastVolumeCl := 325 } }

/-- A CRC-valid frame with a command byte that has no row (V-DEC-G). -/
def frame99 : LongFrame := ⟨0x50#8, [0x01#8, 0x02#8, 0x03#8], 0xFE#8, 0x31#8⟩

/-- A composite frame with an unknown record and a status (V-DEC-V). -/
def frame35 : LongFrame := ⟨0x50#8, [0x09#8, 0x00#8, 0x01#8, 0x01#8, 0x00#8], 0xD9#8, 0xF1#8⟩

/-- An alternate frame (V-DEC-Q). -/
def frameD2 : LongFrame := ⟨0x50#8, [0x00#8], 0x5C#8, 0xB1#8⟩

theorem witness_CrcLinearChainsAndLeavesNoResidue :
    [0x50#8, 0x30#8].length = [0x15#8, 0xD2#8].length ∧ [0x50#8] ≠ [0x15#8] := by decide

theorem witness_BcdEncodePacksClampedDigits :
    0 < 4 ∧ 3 < 4 := by decide

theorem witness_CrcPairFollowsOrder :
    (0x1414#16 : Word16).extractLsb' 0 8 = (0x1414#16 : Word16).extractLsb' 8 8 ∧ (0xD215#16 : Word16).extractLsb' 0 8 ≠ (0xD215#16 : Word16).extractLsb' 8 8 := by decide

theorem witness_CrcBitShiftFeedsBackLowBit :
    (1 ≤ 1 ∧ 1 ≤ 12) ∧ 1 ≤ 12 ∧ 12 ≤ 12 := by decide

theorem witness_PresetFrameCarriesClampedVolume :
    (10 : Int) ≤ 10 ∧ (25000 : Int) ≤ 25000 := by decide

theorem witness_BcdRoundTrips :
    [0x12#8, 0x34#8, 0x56#8, 0x78#8].length = 4 ∧ (∀ b ∈ [0x90#8, 0x09#8, 0x99#8, 0x00#8], (highNibble b).toNat < 10 ∧ (lowNibble b).toNat < 10) ∧
    ¬ (highNibble 0xA0#8).toNat < 10 := by decide

/-- The reset state has no finite capacity and reads R162 as specified. -/
theorem witness_unbounded :
    unbounded State.reset := ⟨rfl, rfl, rfl⟩

theorem witness_RxByteBuffersOrCutsFrame :
    unbounded { State.reset with rxBuf := [0x50#8, 0x30#8, 0x04#8, 0x15#8, 0xD2#8, 0x03#8] } ∧ 7 ≤ [0x50#8, 0x30#8, 0x04#8, 0x15#8, 0xD2#8, 0x03#8].length + 1 ∧
    ¬ 7 ≤ [0x01#8, 0x02#8, 0x03#8, 0x04#8, 0x03#8].length + 1 ∧ ([0x50#8, 0x20#8] ++ [0xFA#8])[0]? = some 0x50#8 := ⟨⟨rfl, rfl, rfl⟩, by decide, by decide, by decide⟩

/-- With each hypothesis at its bound. -/
theorem witness_FullBuffersFaultAndLooseEtxIsRefused :
    fault? (exec (.stepRxByte 0x00#8) { State.reset with cfg := { Config.Params.default with rxCap := some 2 }, rxBuf := [0x50#8, 0x30#8] }) =
      some .rxOverflow ∧
    fault? (exec (.stepRxByte 0xFA#8) { State.reset with
      cfg := { Config.Params.default with queueCap := some 0 }, rxBuf := [0x50#8, 0x30#8, 0x04#8, 0x15#8, 0xD2#8, 0x03#8] }) = some .queueOverflow ∧
    fault? (exec (.stepRxByte 0xFA#8) { State.reset with cfg := { Config.Params.default with queueCap := some 0 }, rxBuf := [0x50#8, 0x20#8] }) =
      some .queueOverflow ∧
    refusal? (exec (.stepRxByte 0xFA#8) { State.reset with
      cfg := { Config.Params.default with etxAdjacent := false }, rxBuf := [0x03#8, 0x30#8, 0x04#8, 0x15#8, 0xD2#8, 0x04#8] }) = some .etxPlacementUnspecified := by decide

theorem witness_ByteStepsEqualWholeBufferScan :
    unbounded { State.reset with rxBuf := [0x50#8, 0x30#8, 0x64#8, 0x15#8, 0xFA#8] } ∧ noFrameIn [0x50#8, 0x30#8, 0x64#8, 0x15#8, 0xFA#8] = true := ⟨⟨rfl, rfl, rfl⟩, by decide⟩

theorem witness_ChunkBoundariesDoNotMatter :
    noFrameIn State.reset.rxBuf = true ∧ unbounded State.reset ∧
    next? (feedChunks [[0x50#8, 0x20#8], [], [0xFA#8, 0x50#8]] State.reset) =
      some { State.reset with frameQ := [⟨.short, [0x50#8, 0x20#8, 0xFA#8]⟩], rxBuf := [0x50#8] } ∧
    next? (feed [0x50#8] State.reset) = some { State.reset with rxBuf := [0x50#8] } := ⟨by decide, ⟨rfl, rfl, rfl⟩, by decide, by decide⟩

theorem witness_EncodedFrameComesBackWhole :
    unbounded State.reset ∧ State.reset.rxBuf = [] ∧ 7 ≤ (longClose [0x50#8, 0x30#8, 0x04#8] .loHi).length ∧
    (∀ t ∈ List.range 6, 6 ≤ t → ¬ ((longClose [0x50#8, 0x30#8, 0x04#8] .loHi)[t]? = some 0xFA#8)) ∧
    (longClose [0x50#8, 0x30#8, 0x04#8] .loHi).length - 1 = 6 ∧
    ¬ ((longClose [0x50#8, 0x30#8, 0x04#8] .loHi)[0]? = some 0x50#8 ∧ (longClose [0x50#8, 0x30#8, 0x04#8] .loHi)[2]? = some 0xFA#8) := ⟨⟨rfl, rfl, rfl⟩, by decide +kernel⟩

theorem witness_ConfigurationWritesItsRegistersOnly :
    exec .hostTransportClose State.reset = .next closed := rfl

theorem witness_IntentHintNeedsHandshake :
    shaken.hs.ok = true ∧ State.reset.hs.ok = false := by decide

theorem witness_ResetValuesOfEveryField :
    State.reset = State.reset := rfl

theorem witness_EchoesAndUnknownShortFramesAreTraced :
    State.reset.transportOpen = true := by decide

theorem witness_BusySendsDeferredAuthorizeOnce :
    shaken.transportOpen = true ∧ shaken.sale.authorizePending = false ∧ shaken.hs.ok = true ∧
    shaken.cfg.codeResume ≠ some shaken.cfg.codeAuthorize ∧
    txOf (exec .rxBusy { shaken with sale := { Sale.initial with authorizePending := true } }) ≠ some shaken.tx ∧
    (next? (exec .rxBusy { shaken with sale := { Sale.initial with authorizePending := true } })).isSome ∧
    shaken.nozzleOut = none ∧
    evtOf (exec .rxBusy { shaken with cfg := { Config.Params.default with codeResume := some 0x06#8 }, sale := { Sale.initial with authorizePending := true } }) =
      some [.frameTrace [0x50#8, 0x70#8, 0xFA#8] true, .commandRefused .nozzleStowed] ∧
    evtOf (exec .rxBusy { State.reset with sale := { Sale.initial with authorizePending := true } }) =
      some [.frameTrace [0x50#8, 0x70#8, 0xFA#8] true, .commandRefused .noHandshake] := by decide +kernel

theorem witness_ClosedTransportDropsFrames :
    closed.transportOpen = false ∧ { closed with frameQ := [⟨.short, [0x50#8, 0x70#8, 0xFA#8]⟩] }.frameQ = [⟨.short, [0x50#8, 0x70#8, 0xFA#8]⟩] := by decide

theorem witness_CrcFailureOnlyTraces :
    State.reset.transportOpen = true ∧ crcOk 0x31#8 status4 .loHi = false ∧ crcOk 0x30#8 status4 .hiLo = false ∧
    crcOk 0x98#8 frame99 .loHi = false := by decide +kernel

theorem witness_AcceptedLongFrameIsTracedAcknowledgedChecked :
    State.reset.transportOpen = true ∧ crcOk 0x99#8 frame99 State.reset.crcOrder = true := by decide +kernel

theorem witness_StatusFramesApplyOneByteStatus :
    crcOk 0x30#8 status4 .loHi = true ∧ status4.payload = [0x04#8] ∧
    crcOk 0xCD#8 ⟨0x50#8, [0x01#8], 0x95#8, 0x41#8⟩ .loHi = true ∧ crcOk 0x01#8 ⟨0x50#8, [0x07#8], 0x40#8, 0x43#8⟩ .loHi = true ∧
    crcOk 0x30#8 ⟨0x50#8, [0x04#8, 0x00#8], 0x13#8, 0xCF#8⟩ .loHi = true ∧ [0x04#8, 0x00#8].length ≠ 1 := by decide +kernel

theorem witness_SaleWindowOpensAndClosesByStatus :
    shaken.sale.active = false ∧ inSale.sale.active = true ∧ inSale.sale.hasVolumeSample = true ∧ inSale.sale.countersBumped = false ∧
    onStatus .filling .fillingCompleted inSale ≠ inSale ∧
    (onStatus .filling .fillingCompleted { inSale with sale := { inSale.sale with countersBumped := true } }).evt = [] ∧
    (onStatus .authorized .reset { inSale with sale := { Sale.initial with active := true } }).evt = [.decodeWarning .noSampleInSale] ∧
    onStatus .reset .reset shaken = shaken ∧ onStatus .filling .suspended inSale = inSale := by decide +kernel

theorem witness_SecondTerminalStatusDoesNotBump :
    mapStatus inSale.cfg 0x05#8 .base = some .fillingCompleted ∧ mapStatus inSale.cfg 0x07#8 .extended = some .switchedOff ∧
    isTerminal .fillingCompleted = true ∧ isTerminal .switchedOff = true ∧
    savesIn (statusItem 0x05#8 .base 3 inSale).evt = savesIn inSale.evt + 1 ∧ (statusItem 0x05#8 .base 3 inSale).sale.active = false ∧
    inSale.cfg.trackerPresent = true ∧ shaken.sale.active = false ∧ (next? (exec (.stFilling 3) shaken)).map (·.sale.active) = some true ∧
    evtOf (exec (.stFillingCompleted 3) shaken) = some [.statusChanged .fillingCompleted] := by decide

theorem witness_VolumeRecordIsRememberedAndStopsAtTarget :
    [0x00#8, 0x00#8, 0x08#8, 0x00#8, 0x00#8, 0x00#8, 0x12#8, 0x00#8].length = 8 ∧ decode4 [0x00#8, 0x00#8, 0x08#8, 0x00#8] = 800 ∧ decode4 [0x00#8, 0x00#8, 0x07#8, 0x99#8] = 799 ∧
    10 * 799 < 8000 ∧ 8000 ≤ 10 * 800 ∧ shaken.cfg.trackerPresent = true ∧ shaken.hs.ok = true ∧
    { shaken.sale with presetTargetMl := some 8000 }.stopSent = false ∧ shaken.cfg.codeResume ≠ some shaken.cfg.codeStop ∧
    evtOf (exec (.subFilledVolumeAmount false [0x00#8, 0x00#8, 0x08#8, 0x00#8, 0x00#8, 0x00#8, 0x12#8, 0x00#8])
      { shaken with cfg := { Config.Params.default with codeResume := some 0x08#8 }, sale := { Sale.initial with presetTargetMl := some 8000 } }) =
      some [.volumeSample 800 1200, .commandRefused .nozzleStowed] := by decide

theorem witness_StatusAndUnknownSubRecords :
    [0x04#8] = [0x04#8] ∧ ([] : List Byte).length ≠ 1 ∧ [0x04#8, 0x05#8].length ≠ 1 := by decide

theorem witness_NozzlePriceAndTotalsSubRecords :
    [0x00#8, 0x12#8, 0x50#8].length ≠ 4 ∧ [0x00#8, 0x00#8, 0x12#8, 0x34#8, 0x56#8].length = 5 ∧ [0x00#8, 0x12#8, 0x50#8, 0x11#8].length ≠ 16 := by decide

/-- A one-byte frame of a command, closed with its CRC. -/
def closedFrame (command : Byte) : LongFrame :=
  ⟨0x50#8, [0x00#8], (crcCompute [0x50#8, command, 0x00#8]).extractLsb' 0 8, (crcCompute [0x50#8, command, 0x00#8]).extractLsb' 8 8⟩

/-- Every command of R88, and one without a row, has a CRC-valid frame: the premise of the completion statements about the inbound Long frames. -/
theorem witness_crcOk_every_command :
    ∀ c ∈ [0x01#8, 0x30#8, 0x31#8, 0x32#8, 0x33#8, 0x34#8, 0x35#8, 0x36#8, 0x37#8, 0x38#8, 0x39#8, 0x3A#8, 0x3B#8, 0x3C#8, 0x3D#8, 0x3E#8, 0x3F#8, 0x65#8, 0xCD#8, 0xD1#8, 0xD2#8, 0xD3#8, 0xD4#8, 0x99#8],
    crcOk c (closedFrame c) State.reset.crcOrder = true := by decide +kernel

theorem witness_CompositeFramesWalkByCursor :
    State.reset.transportOpen = true ∧ crcOk 0x35#8 frame35 State.reset.crcOrder = true ∧ frame35.payload.length ≤ 5 ∧
    crcOk 0x65#8 ⟨0x50#8, [0x02#8, 0x08#8, 0x00#8, 0x00#8, 0x01#8, 0x00#8, 0x00#8, 0x00#8, 0x02#8, 0x00#8], 0xE9#8, 0xB6#8⟩ State.reset.crcOrder = true := by decide +kernel

/-- The value of `ALT_DECODE` is free, so one of the two cases is met, whichever it is; every command of the four has a CRC-valid frame (`witness_crcOk_every_command`). -/
theorem witness_AlternateFramesUseSuppliedDecoder :
    State.reset.transportOpen = true ∧ crcOk 0xD2#8 frameD2 State.reset.crcOrder = true ∧ State.reset.cfg.altDecodeSupplied = false ∧
    { Config.Params.default with altDecodeSupplied := true }.altDecodeSupplied = true ∧
    ((∃ l, Config.altVolume frameD2.payload = some l ∧ altDecode 0xD2#8 frameD2.payload = some (l.map fun x => .volume x.1 x.2)) ∨
      altDecode 0xD2#8 frameD2.payload = none) := by
  refine ⟨by decide, by decide +kernel, by decide, by decide, ?_⟩
  cases h : Config.altVolume frameD2.payload with
  | none => exact .inr (by simp [altDecode, h])
  | some l => exact .inl ⟨l, rfl, by simp [altDecode, h]⟩

theorem witness_DispatchRunsDecodedFrame :
    decodeFrame 3 .long [0x50#8, 0x30#8, 0x04#8, 0x15#8, 0xD2#8, 0x03#8, 0xFA#8] = .ok (.rxStatusReply 3 status4) ∧ (queued .long [0x50#8, 0x30#8, 0x04#8, 0x15#8, 0xD2#8, 0x03#8, 0xFA#8]).frameQ = [⟨.long, [0x50#8, 0x30#8, 0x04#8, 0x15#8, 0xD2#8, 0x03#8, 0xFA#8]⟩] ∧
    (queued .long [0x50#8, 0x30#8, 0x04#8, 0x15#8, 0xD2#8, 0x03#8, 0xFA#8]).transportOpen = true ∧ State.reset.frameQ = [] := by decide

/-- The reset state with one queued frame is in the invariant, with the transport open or closed. -/
theorem witness_DispatchTakesOldestFrameAndReportsIt :
    Inv (queued .long [0x50#8, 0x30#8, 0x04#8, 0x15#8, 0xD2#8, 0x03#8, 0xFA#8]) ∧ Inv { queued .short [0x50#8, 0x70#8, 0xFA#8] with transportOpen := false } ∧
    Inv { queued .long [0x50#8, 0xD2#8, 0x00#8, 0x5C#8, 0xB1#8, 0x03#8, 0xFA#8] with cfg := { Config.Params.default with altDecodeSupplied := true } } := ⟨by constructor <;> decide, by constructor <;> decide, by constructor <;> decide⟩

theorem witness_StepRunsDecodedLine :
    decodeStep [2] = .ok .stepTimerFire ∧ Instr.stepTimerFire.wf = true ∧ (lined [2]).script = [[2]] ∧ decodeStep [6] = .error (.unknownStep 6) ∧
    State.reset.script = [] := by decide

theorem witness_DecodeOfEncodeIsIdentity :
    (Instr.txPresetVolume 0x50#8 10).wf = true ∧ (Instr.txPresetVolume 0x50#8 25000).wf = true ∧ (Instr.rxUnknownCommand 0x99#8 frame99).wf = true := by decide

theorem witness_EncodeOfDecodeIsIdentity :
    decodeRxLong 7 [0x50#8, 0x30#8, 0x04#8, 0x15#8, 0xD2#8, 0x03#8, 0xFA#8] = .ok (.rxStatusReply 7 status4) ∧ decodeRxShort [0x50#8, 0x70#8, 0xFA#8] = .ok .rxBusy ∧
    decodeSubRec 7 true [0x03#8, 0x00#8] = .ok (.subTotals []) ∧ decodeHost [9] = .ok .hostTransportClose ∧ decodeStep [4] = .ok .stepTransportFault := by decide

/-- A step from a state of the invariant that has a next state, before the handshake: a poll by the timer. -/
theorem witness_EveryStepKeepsInvariant :
    Inv (lined [2]) ∧ (next? (step (lined [2]))).isSome ∧ (lined [2]).hs.ok = false ∧
    txOf (step (lined [2])) = some [[0x50#8, 0x20#8, 0xFA#8]] := ⟨by constructor <;> decide, by decide⟩

theorem witness_OnlyReadQueriesLeaveBeforeHandshake :
    Inv (lined [3, 0, 4]) ∧ (lined [3, 0, 4]).hs.ok = false ∧ txOf (step (lined [3, 0, 4])) =
      some [[0x50#8, 0x30#8, 0x01#8, 0x01#8, 0x04#8, 0x9E#8, 0x9F#8, 0x03#8, 0xFA#8]] := ⟨by constructor <;> decide, by decide, by decide +kernel⟩

/-- An instruction that acquires the handshake, one that keeps it, and a state whose count of announcements is right. -/
theorem witness_HandshakeIsPermanentAndAnnouncedOnce :
    evtOf (exec (.stNotProgrammed 3) State.reset) = some [.handshakeAcquired, .statusChanged .notProgrammed] ∧
    handshakesIn State.reset.evt = 0 ∧ State.reset.hs.ok = false ∧
    handshakesIn { shaken with evt := [.handshakeAcquired] }.evt = 1 ∧ (next? (exec (.stReset 3) shaken)).map (·.hs.ok) = some true := by decide

theorem witness_PumpStateMovesOnlyByReportedStatus :
    carriesNoStatus .stepTimerFire = true ∧ (next? (exec .stepTimerFire State.reset)).isSome ∧
    (next? (exec (.stFilling 3) State.reset)).map (·.pumpState) = some .filling := by decide

/-- The capacities at their bound and one below it, and a line that is no step. -/
theorem witness_StepsStopOnlyWhereTheSpecSaysSo :
    Inv { lined [0, 0] with cfg := { Config.Params.default with rxCap := some 0 } } ∧
    fault? (step { lined [0, 0] with cfg := { Config.Params.default with rxCap := some 0 } }) = some .rxOverflow ∧
    fault? (step { lined [0, 0] with cfg := { Config.Params.default with rxCap := some 1 } }) = none ∧
    Inv { lined [0, 250] with cfg := { Config.Params.default with queueCap := some 0 }, rxBuf := [0x50#8, 0x20#8] } ∧ fault? (step { lined [0, 250] with cfg := { Config.Params.default with queueCap := some 0 }, rxBuf := [0x50#8, 0x20#8] }) = some .queueOverflow ∧ fault? (step { lined [0, 250] with cfg := { Config.Params.default with queueCap := some 1 }, rxBuf := [0x50#8, 0x20#8] }) = none ∧
    Inv (lined [6]) ∧ refusal? (step (lined [6])) = some (.badScriptLine (.unknownStep 6)) ∧ decodeStep [6] = .error (.unknownStep 6) := ⟨by constructor <;> decide, by decide, by decide, by constructor <;> decide, by decide, by decide, by constructor <;> decide, by decide, by decide⟩

/-- The refusals of R162 and R220, each from a state of the invariant. -/
theorem witness_StepsRefuseOnlyWhereTheSpecSaysSo :
    Inv { lined [0, 250] with cfg := { Config.Params.default with etxAdjacent := false }, rxBuf := [0x03#8, 0x30#8, 0x04#8, 0x15#8, 0xD2#8, 0x04#8] } ∧
    refusal? (step { lined [0, 250] with cfg := { Config.Params.default with etxAdjacent := false }, rxBuf := [0x03#8, 0x30#8, 0x04#8, 0x15#8, 0xD2#8, 0x04#8] }) = some .etxPlacementUnspecified ∧ decodeStep [0, 250] = .ok (.stepRxByte 0xFA#8) ∧
    Inv { lined [1, 0] with frameQ := [⟨.long, [0x50#8, 0xD2#8, 0x00#8, 0x5C#8, 0xB1#8, 0x03#8, 0xFA#8]⟩] } ∧
    refusal? (step { lined [1, 0] with frameQ := [⟨.long, [0x50#8, 0xD2#8, 0x00#8, 0x5C#8, 0xB1#8, 0x03#8, 0xFA#8]⟩] }) =
      some (.altFrameLayoutUnknown 0xD2#8) ∧
    longFrameBytes 0xD2#8 frameD2 = [0x50#8, 0xD2#8, 0x00#8, 0x5C#8, 0xB1#8, 0x03#8, 0xFA#8] ∧ crcOk 0xD2#8 frameD2 State.reset.crcOrder = true := ⟨by constructor <;> decide, by decide, by decide, by constructor <;> decide, by decide +kernel, by decide, by decide +kernel⟩

/-- A save is counted, a built frame is sent, the streams grow and a register changes, each by an instruction with a next state. -/
theorem witness_VehicleCountMatchesSaves :
    CountersMatchSaves inSale ∧ (next? (exec (.stFillingCompleted 3) inSale)).map (fun s => (s.counters.vehicleCount, savesIn s.evt)) = some (1, 1) := ⟨rfl, by decide⟩

theorem witness_OnlyBuiltFramesAreSent :
    txOf (exec .txMinPoll State.reset) = some [minPoll] ∧ State.reset.tx = [] := by decide

theorem witness_StreamsOnlyGrow :
    evtOf (exec .stepTransportFault shaken) = some [.transportFault] ∧ (next? (exec (.stepSessionReset none) shaken)).map (·.evt) = some [] := by decide

theorem witness_ControlRegistersAndBuffersHaveTheirWriters :
    (next? (exec (.hostSetAutoPoll false 0) State.reset)).map (fun s => (s.autoPoll, s.pollIntervalMs)) = some (false, 0) ∧
    (next? (exec (.stepDispatch 0) (queued .short [0x50#8, 0x20#8, 0xFA#8]))).map (·.frameQ) = some [] := by decide

theorem witness_TimeIsNeverRead :
    sameButTime State.reset { State.reset with pollIntervalMs := 250 } ∧ { State.reset with pollIntervalMs := 250 } ≠ State.reset := ⟨rfl, by decide⟩

end Sys2Proof.Tests
end

/-! # Steps and the reasons they stop

The head of the script, and the outcomes of a step other than a next state: what a byte can raise (R61, R62, R162), what the dispatch of a queued frame
can raise (R220), and that every other step completes. -/

namespace Sys2Proof.Proofs.Stops

open Sys2Proof Sys2Proof.Machine Sys2Proof.Laws

/-! ## The line to run -/

theorem step_of_script_nil {s : State} (hs : s.script = []) : step s = .next s := by
  simp [step, hs]

theorem step_of_decoded {s : State} {line : List Nat} {rest : List (List Nat)} {i : Instr} (hs : s.script = line :: rest)
    (hd : decodeStep line = .ok i) : step s = exec i { s with script := rest } := by
  simp [step, hs, hd]

theorem step_of_rejected {s : State} {line : List Nat} {rest : List (List Nat)} {why : Reject} (hs : s.script = line :: rest)
    (hd : decodeStep line = .error why) : step s = .refused (.badScriptLine why) := by
  simp [step, hs, hd]

theorem not_pendingIs_of_script_nil {s : State} (hs : s.script = []) (i : Instr) : ¬ pendingIs s i := by
  simp [pendingIs, hs]

theorem not_pendingIs_of_rejected {s : State} {line : List Nat} {rest : List (List Nat)} {why : Reject} (hs : s.script = line :: rest)
    (hd : decodeStep line = .error why) (i : Instr) : ¬ pendingIs s i := by
  simp [pendingIs, hs, hd]

/-- The pending instruction is the one the first line decodes to. -/
theorem pendingIs_iff_of_decoded {s : State} {line : List Nat} {rest : List (List Nat)} {i : Instr} (hs : s.script = line :: rest)
    (hd : decodeStep line = .ok i) (j : Instr) : pendingIs s j ↔ i = j := by
  simp [pendingIs, hs, hd]

theorem exists_of_map_eq_ok {α β : Type} {f : α → β} {x : Except Reject α} {b : β} (h : x.map f = .ok b) : ∃ a, f a = b := by
  cases x with
  | error why => cases h
  | ok a => exact ⟨a, Except.ok.inj h⟩

/-- A line decodes to one of the six steps of R97. -/
theorem decodeStep_ok_cases {line : List Nat} {i : Instr} (h : decodeStep line = .ok i) :
    (∃ b, i = .stepRxByte b) ∨ (∃ now, i = .stepDispatch now) ∨ i = .stepTimerFire ∨ (∃ op, i = .stepHost op) ∨
      i = .stepTransportFault ∨ ∃ load, i = .stepSessionReset load := by
  unfold decodeStep at h
  split at h
  case h_1 => cases h
  case h_2 =>
    obtain ⟨b, rfl⟩ := exists_of_map_eq_ok h
    exact .inl ⟨b, rfl⟩
  case h_5 =>
    obtain ⟨op, rfl⟩ := exists_of_map_eq_ok h
    exact .inr (.inr (.inr (.inl ⟨op, rfl⟩)))
  case h_9 => split at h <;> cases h
  all_goals
    cases h
    simp

/-! ## Steps that always complete -/

theorem runHostOp_completes (op : HostOp) (s : State) : ∃ t, runHostOp op s = .next t := by
  cases op with
  | sendPresetVolume v =>
    simp only [runHostOp, execHostSendPresetVolume]
    split
    · exact ⟨_, rfl⟩
    · split <;> exact ⟨_, rfl⟩
  | sendTotalsRequest =>
    simp only [runHostOp, execHostSendTotalsRequest]
    split <;> exact ⟨_, rfl⟩
  | intentHint state =>
    simp only [runHostOp, execHostIntentHint]
    split <;> exact ⟨_, rfl⟩
  | _ => exact ⟨_, rfl⟩

/-- A decoded line that is neither a byte nor a dispatch runs to a next state. -/
theorem decodeStep_byte_or_dispatch_or_completes {line : List Nat} {i : Instr} (h : decodeStep line = .ok i) :
    (∃ b, i = .stepRxByte b) ∨ (∃ now, i = .stepDispatch now) ∨
      (∀ b, i ≠ .stepRxByte b) ∧ (∀ now, i ≠ .stepDispatch now) ∧ ∀ s, ∃ t, exec i s = .next t := by
  rcases decodeStep_ok_cases h with hb | hd | rfl | ⟨op, rfl⟩ | rfl | ⟨load, rfl⟩
  · exact .inl hb
  · exact .inr (.inl hd)
  · refine .inr (.inr ⟨nofun, nofun, fun s => ?_⟩)
    simp only [exec, execStepTimerFire]
    split <;> exact ⟨_, rfl⟩
  · exact .inr (.inr ⟨nofun, nofun, runHostOp_completes op⟩)
  · exact .inr (.inr ⟨nofun, nofun, fun s => ⟨_, rfl⟩⟩)
  · exact .inr (.inr ⟨nofun, nofun, fun s => ⟨_, rfl⟩⟩)

/-! ## Capacities and shapes in the spec's words -/

theorem atCapacity_eq_true_iff {cap : Option Nat} {n : Nat} : atCapacity cap n = true ↔ ∃ c, cap = some c ∧ c ≤ n := by
  cases cap <;> simp [atCapacity]

theorem atCapacity_eq_false_iff {cap : Option Nat} {n : Nat} : atCapacity cap n = false ↔ ∀ c, cap = some c → n < c := by
  cases cap <;> simp [atCapacity]

/-- The long shape of a buffer and one more byte: the ETX ends the buffer (R162). -/
theorem hasLongShape_append {buf : List Byte} {b : Byte} :
    hasLongShape (buf ++ [b]) = true ↔ 6 ≤ buf.length ∧ buf.getLast? = some 0x03#8 := by
  have hlast : 6 ≤ buf.length → (buf ++ [b])[(buf ++ [b]).length - 2]? = buf.getLast? := fun h => by
    rw [List.getLast?_eq_getElem?, List.getElem?_append_left (by simp; omega)]
    congr 1
    simp
  simp only [hasLongShape, Config.minLongLen, Config.etx, Bool.and_eq_true, decide_eq_true_eq, beq_iff_eq,
    List.length_append, List.length_singleton] at hlast ⊢
  exact ⟨fun ⟨hlen, hetx⟩ => ⟨by omega, hlast (by omega) ▸ hetx⟩, fun ⟨hlen, hetx⟩ => ⟨by omega, (hlast hlen).trans hetx⟩⟩

/-- The other reading's long shape of a buffer and one more byte: an ETX anywhere in the buffer (R162, U19). -/
theorem hasLongShapeLoose_append {buf : List Byte} {b : Byte} :
    hasLongShapeLoose (buf ++ [b]) = true ↔ 6 ≤ buf.length ∧ 0x03#8 ∈ buf := by
  simp [hasLongShapeLoose, Config.minLongLen, Config.etx]

/-- The short shape of a buffer and one more byte (R163). -/
theorem hasShortShape_append {buf : List Byte} {b : Byte} :
    hasShortShape (buf ++ [b]) = true ↔ buf.length = 2 ∧ buf.head? = some 0x50#8 := by
  cases buf <;> simp [hasShortShape, Config.shortLead]

/-! ## What a byte raises -/

theorem enqueueBuffer_fault_iff {shape : Shape} {s : State} {r : Fault} :
    enqueueBuffer shape s = .fault r ↔ r = .queueOverflow ∧ atCapacity s.cfg.queueCap s.frameQ.length = true := by
  unfold enqueueBuffer
  split <;> simp_all [eq_comm (b := r)]

theorem enqueueBuffer_ne_refused (shape : Shape) (s : State) (r : Refusal) : enqueueBuffer shape s ≠ .refused r := by
  unfold enqueueBuffer
  split <;> simp

theorem cutFrame_fault_iff {s : State} {r : Fault} :
    cutFrame s = .fault r ↔ r = .queueOverflow ∧ (s.cfg.etxAdjacent = false → hasLongShapeLoose s.rxBuf = false) ∧
      (hasLongShape s.rxBuf = true ∨ hasShortShape s.rxBuf = true) ∧ atCapacity s.cfg.queueCap s.frameQ.length = true := by
  unfold cutFrame
  split
  case isTrue hother => simp_all
  case isFalse hother =>
    split
    · simp_all [enqueueBuffer_fault_iff]
    · split <;> simp_all [enqueueBuffer_fault_iff]

theorem cutFrame_refused_iff {s : State} {r : Refusal} :
    cutFrame s = .refused r ↔
      r = .etxPlacementUnspecified ∧ s.cfg.etxAdjacent = false ∧ hasLongShapeLoose s.rxBuf = true := by
  unfold cutFrame
  split
  case isTrue hother => simp_all [eq_comm (b := r)]
  case isFalse hother =>
    split
    · simp_all [enqueueBuffer_ne_refused]
    · split <;> simp_all [enqueueBuffer_ne_refused]

/-- A buffer that a trailer completes to a frame: with `ETX_ADJACENT = false` a long shape is the other reading's too, so only a Short frame is cut. -/
theorem frame_cut_iff {adjacent : Bool} {buf : List Byte} {b : Byte} :
    (adjacent = false → hasLongShapeLoose (buf ++ [b]) = false) ∧
        (hasLongShape (buf ++ [b]) = true ∨ hasShortShape (buf ++ [b]) = true) ↔
      adjacent = true ∧ 6 ≤ buf.length ∧ buf.getLast? = some 0x03#8 ∨ buf.length = 2 ∧ buf.head? = some 0x50#8 := by
  simp only [Bool.eq_false_iff, ne_eq, hasLongShape_append, hasLongShapeLoose_append, hasShortShape_append]
  constructor
  · rintro ⟨hguard, ⟨hlen, hlast⟩ | hshort⟩
    · exact .inl ⟨by_contra fun hadj => hguard hadj ⟨hlen, List.mem_of_getLast? hlast⟩, hlen, hlast⟩
    · exact .inr hshort
  · rintro (⟨hadj, hlong⟩ | ⟨hlen, hlead⟩)
    · exact ⟨fun hnot => absurd hadj hnot, .inl hlong⟩
    · exact ⟨fun _ ⟨hlong, _⟩ => by omega, .inr ⟨hlen, hlead⟩⟩

/-- A byte's faults (R61, R62): a full buffer, or a frame cut onto a full queue. -/
theorem exec_stepRxByte_fault_iff {b : Byte} {s : State} {r : Fault} :
    exec (.stepRxByte b) s = .fault r ↔
      (r = .rxOverflow ∧ ∃ c, s.cfg.rxCap = some c ∧ c ≤ s.rxBuf.length) ∨
      (r = .queueOverflow ∧ b = 0xFA#8 ∧ (∀ c, s.cfg.rxCap = some c → s.rxBuf.length < c) ∧
        (s.cfg.etxAdjacent = true ∧ 6 ≤ s.rxBuf.length ∧ s.rxBuf.getLast? = some 0x03#8 ∨
          s.rxBuf.length = 2 ∧ s.rxBuf.head? = some 0x50#8) ∧
        ∃ c, s.cfg.queueCap = some c ∧ c ≤ s.frameQ.length) := by
  simp only [exec, execStepRxByte, receiveByte, Config.trailer, ← atCapacity_eq_true_iff, ← atCapacity_eq_false_iff]
  cases hcap : atCapacity s.cfg.rxCap s.rxBuf.length with
  | true => simp [eq_comm (b := r)]
  | false =>
    by_cases hb : b = 0xFA#8
    · simp [hb, cutFrame_fault_iff, ← frame_cut_iff (b := 0xFA#8), and_assoc]
    · simp [hb]

/-- A byte's refusal (R162, U19): a trailer where the other reading could cut. -/
theorem exec_stepRxByte_refused_iff {b : Byte} {s : State} {r : Refusal} :
    exec (.stepRxByte b) s = .refused r ↔
      r = .etxPlacementUnspecified ∧ s.cfg.etxAdjacent = false ∧ b = 0xFA#8 ∧
        (∀ c, s.cfg.rxCap = some c → s.rxBuf.length < c) ∧ 6 ≤ s.rxBuf.length ∧ 0x03#8 ∈ s.rxBuf := by
  simp only [exec, execStepRxByte, receiveByte, Config.trailer, ← atCapacity_eq_false_iff]
  cases hcap : atCapacity s.cfg.rxCap s.rxBuf.length with
  | true => simp
  | false =>
    by_cases hb : b = 0xFA#8
    · simp [hb, cutFrame_refused_iff, hasLongShapeLoose_append]
    · simp [hb]

/-! ## What the dispatch of a queued frame raises -/

/-- A queue element of the form of R53 (c) is a Long frame laid out from its fields, or a Short frame. -/
theorem frameWf_cases {q : Frame} (h : frameWf q = true) :
    (∃ (c : Byte) (f : LongFrame), f.wf = true ∧ q = ⟨.long, longFrameBytes c f⟩) ∨
      ∃ code, q = ⟨.short, shortFrameBytes code⟩ := by
  obtain ⟨shape, bytes⟩ := q
  cases shape with
  | long =>
    left
    simp only [frameWf, Bool.and_eq_true, decide_eq_true_eq, beq_iff_eq] at h
    obtain ⟨⟨hlen, htrailer⟩, hetx⟩ := h
    match bytes with
    | addr :: command :: rest =>
      have hlast : (rest.drop (rest.length - 4)).length = 4 := by simp at hlen ⊢; omega
      obtain ⟨k1, k2, e, t, hdrop⟩ := List.length_eq_four.1 hlast
      obtain ⟨payload, hrest⟩ : ∃ payload, rest = payload ++ [k1, k2, e, t] :=
        ⟨_, hdrop ▸ (List.take_append_drop (rest.length - 4) rest).symm⟩
      subst hrest
      obtain rfl : t = 0xFA#8 := by simpa using htrailer
      obtain rfl : e = 0x03#8 := by simpa using hetx
      have hpos : 0 < payload.length := by simp at hlen; omega
      exact ⟨command, ⟨addr, payload, k1, k2⟩, by simp [LongFrame.wf, List.ne_nil_of_length_pos hpos], rfl⟩
  | short =>
    right
    match bytes with
    | [lead, code, sf] =>
      obtain ⟨rfl, rfl⟩ : lead = 0x50#8 ∧ sf = 0xFA#8 := by simpa [frameWf] using h
      exact ⟨code, rfl⟩

/-- A laid-out Long frame in the queue has a payload. -/
theorem wf_of_frameWf_long {c : Byte} {f : LongFrame} (h : frameWf ⟨.long, longFrameBytes c f⟩ = true) : f.wf = true := by
  cases hp : f.payload <;> simp_all [frameWf, longFrameBytes, LongFrame.wf]

/-- A Long frame's handler is `altFrame` for the alternate commands and completes for every other one (R210). -/
theorem runFrame_longRow (now : Nat) (c : Byte) (f : LongFrame) :
    (c ∈ [0xD1#8, 0xD2#8, 0xD3#8, 0xD4#8] ∧ ∀ s, runFrame (longRow now c f) s = receiveLong c f (altFrame c f.payload now) s) ∨
      c ∉ [0xD1#8, 0xD2#8, 0xD3#8, 0xD4#8] ∧ ∃ handler : State → State,
        ∀ s, runFrame (longRow now c f) s = receiveLong c f (fun u => .next (handler u)) s := by
  unfold longRow
  split
  case h_20 | h_21 | h_22 | h_23 => exact .inl ⟨by decide, fun _ => rfl⟩
  case h_24 => exact .inr ⟨by simp_all, _, fun _ => rfl⟩
  all_goals exact .inr ⟨by decide, _, fun _ => rfl⟩

/-- A Short frame completes whatever its code is (R210, R212 to R214). -/
theorem runFrame_shortRow_completes (code : Byte) (s : State) : ∃ t, runFrame (shortRow code) s = .next t := by
  have hshort : ∀ handler, ∃ t, receiveShort code handler s = .next t := fun handler => by
    cases ho : s.transportOpen
    · exact ⟨_, receiveShort_closed handler ho⟩
    · exact ⟨_, receiveShort_open handler ho⟩
  unfold shortRow
  split
  case h_1 | h_2 => exact hshort fun u => u
  case h_3 => exact hshort busy
  case h_4 => exact hshort (warn (.unknownShortCode code))

theorem receiveLong_completes (command : Byte) (f : LongFrame) (handler : State → State) (s : State) :
    ∃ t, receiveLong command f (fun u => .next (handler u)) s = .next t := by
  cases ho : s.transportOpen
  · exact ⟨_, receiveLong_closed _ ho⟩
  · cases hc : crcOk command f s.crcOrder
    · exact ⟨_, receiveLong_bad _ ho hc⟩
    · exact ⟨_, receiveLong_accepted _ ho hc⟩

/-- The oldest queued frame is an alternate one that R220 refuses: CRC-valid, over an open transport, without `ALT_DECODE`. -/
structure AltFrameWaits (s : State) (c : Byte) (f : LongFrame) (rest : List Frame) : Prop where
  alternate : c ∈ [0xD1#8, 0xD2#8, 0xD3#8, 0xD4#8]
  oldest : s.frameQ = ⟨.long, longFrameBytes c f⟩ :: rest
  valid : crcOk c f s.crcOrder = true
  undecoded : s.cfg.altDecodeSupplied = false
  isOpen : s.transportOpen = true

theorem altFrameWaits_iff {s : State} {c : Byte} {f : LongFrame} {rest : List Frame} :
    AltFrameWaits s c f rest ↔ c ∈ [0xD1#8, 0xD2#8, 0xD3#8, 0xD4#8] ∧ s.frameQ = ⟨.long, longFrameBytes c f⟩ :: rest ∧
      crcOk c f s.crcOrder = true ∧ s.cfg.altDecodeSupplied = false ∧ s.transportOpen = true :=
  ⟨fun ⟨halt, hq, hc, ha, ho⟩ => ⟨halt, hq, hc, ha, ho⟩, fun ⟨halt, hq, hc, ha, ho⟩ => ⟨halt, hq, hc, ha, ho⟩⟩

/-- An alternate frame is refused under the conditions of R220 and completes otherwise. -/
theorem receiveLong_altFrame_cases (command : Byte) (f : LongFrame) (now : Nat) {s : State} (ho : s.transportOpen = true) :
    (crcOk command f s.crcOrder = true ∧ s.cfg.altDecodeSupplied = false ∧
        receiveLong command f (altFrame command f.payload now) s = .refused (.altFrameLayoutUnknown command)) ∨
      ¬ (crcOk command f s.crcOrder = true ∧ s.cfg.altDecodeSupplied = false) ∧
        ∃ t, receiveLong command f (altFrame command f.payload now) s = .next t := by
  cases hc : crcOk command f s.crcOrder
  · exact .inr ⟨by simp, _, receiveLong_bad _ ho hc⟩
  · rw [receiveLong_accepted _ ho hc, ← (continues_acceptLong command f s).cfg]
    rcases altFrame_cases command f.payload now (acceptLong command f s) with ⟨ha, h⟩ | ⟨ha, ⟨_, -, h⟩ | ⟨-, h⟩⟩
    · exact .inl ⟨rfl, ha, h⟩
    · exact .inr ⟨by simp [ha], _, h⟩
    · exact .inr ⟨by simp [ha], _, h⟩

theorem exec_stepDispatch_closed (now : Nat) {q : Frame} {rest : List Frame} {s : State} (hq : s.frameQ = q :: rest)
    (ho : s.transportOpen = false) : exec (.stepDispatch now) s = .next (dropClosed { s with frameQ := rest }) :=
  (execStepDispatch_cons hq).trans (dispatchFrame_closed ho)

theorem exec_stepDispatch_open {now : Nat} {q : Frame} {rest : List Frame} {s : State} {i : Instr} (hq : s.frameQ = q :: rest)
    (ho : s.transportOpen = true) (hd : decodeFrame now q.shape q.bytes = .ok i) :
    exec (.stepDispatch now) s = runFrame i { s with frameQ := rest } :=
  (execStepDispatch_cons hq).trans (dispatchFrame_open ho hd)

/-- The `Dispatch` of a Long frame is refused on an alternate frame that waits and completes otherwise. -/
theorem exec_stepDispatch_long (now : Nat) {s : State} {c : Byte} {f : LongFrame} {rest : List Frame} (hf : f.wf = true)
    (hq : s.frameQ = ⟨.long, longFrameBytes c f⟩ :: rest) :
    (AltFrameWaits s c f rest ∧ exec (.stepDispatch now) s = .refused (.altFrameLayoutUnknown c)) ∨
      ¬ AltFrameWaits s c f rest ∧ ∃ t, exec (.stepDispatch now) s = .next t := by
  cases ho : s.transportOpen with
  | false => exact .inr ⟨fun hw => absurd (ho.symm.trans hw.isOpen) nofun, _, exec_stepDispatch_closed now hq ho⟩
  | true =>
    rw [exec_stepDispatch_open hq ho (decodeRxLong_longFrameBytes now c f hf)]
    rcases runFrame_longRow now c f with ⟨halt, hrun⟩ | ⟨hother, handler, hrun⟩
    · rw [hrun]
      rcases receiveLong_altFrame_cases c f now (s := { s with frameQ := rest }) ho with ⟨hc, ha, h⟩ | ⟨hnot, h⟩
      · exact .inl ⟨⟨halt, hq, hc, ha, ho⟩, h⟩
      · exact .inr ⟨fun hw => hnot ⟨hw.valid, hw.undecoded⟩, h⟩
    · rw [hrun]
      exact .inr ⟨fun hw => hother hw.alternate, receiveLong_completes c f handler _⟩

theorem exec_stepDispatch_short_completes (now : Nat) {s : State} {code : Byte} {rest : List Frame}
    (hq : s.frameQ = ⟨.short, shortFrameBytes code⟩ :: rest) : ∃ t, exec (.stepDispatch now) s = .next t := by
  cases ho : s.transportOpen with
  | false => exact ⟨_, exec_stepDispatch_closed now hq ho⟩
  | true =>
    have hd : decodeFrame now .short (shortFrameBytes code) = .ok (shortRow code) := rfl
    rw [exec_stepDispatch_open hq ho hd]
    exact runFrame_shortRow_completes code _

/-- A `Dispatch` from a queue whose elements have their form (R53 (c)) is refused on a waiting alternate frame and completes otherwise. -/
theorem exec_stepDispatch_cases (now : Nat) {s : State} (hwf : ∀ q ∈ s.frameQ, frameWf q = true) :
    (∃ c f rest, AltFrameWaits s c f rest ∧ exec (.stepDispatch now) s = .refused (.altFrameLayoutUnknown c)) ∨
      ∃ t, exec (.stepDispatch now) s = .next t := by
  cases hq : s.frameQ with
  | nil => exact .inr ⟨s, by simp [exec, execStepDispatch, hq]⟩
  | cons q rest =>
    rcases frameWf_cases (hwf q (by simp [hq])) with ⟨c, f, hf, rfl⟩ | ⟨code, rfl⟩
    · rcases exec_stepDispatch_long now hf hq with ⟨hw, h⟩ | ⟨-, h⟩
      · exact .inl ⟨c, f, rest, hw, h⟩
      · exact .inr h
    · exact .inr (exec_stepDispatch_short_completes now hq)

theorem exec_stepDispatch_ne_fault (now : Nat) {s : State} (hwf : ∀ q ∈ s.frameQ, frameWf q = true) (r : Fault) :
    exec (.stepDispatch now) s ≠ .fault r := by
  rcases exec_stepDispatch_cases now hwf with ⟨_, _, _, -, h⟩ | ⟨_, h⟩ <;> simp [h]

/-- The refusal of R220, for a queue whose elements have their form. -/
theorem exec_stepDispatch_refused_iff (now : Nat) {s : State} (hwf : ∀ q ∈ s.frameQ, frameWf q = true) (r : Refusal) :
    exec (.stepDispatch now) s = .refused r ↔ ∃ c f rest, r = .altFrameLayoutUnknown c ∧ AltFrameWaits s c f rest := by
  constructor
  · intro hr
    rcases exec_stepDispatch_cases now hwf with ⟨c, f, rest, hw, h⟩ | ⟨t, h⟩
    · exact ⟨c, f, rest, by simpa using hr.symm.trans h, hw⟩
    · exact absurd (hr.symm.trans h) nofun
  · rintro ⟨c, f, rest, rfl, hw⟩
    have hf : f.wf = true := wf_of_frameWf_long (hwf ⟨.long, longFrameBytes c f⟩ (by simp [hw.oldest]))
    rcases exec_stepDispatch_long now hf hw.oldest with ⟨-, h⟩ | ⟨hnot, -⟩
    · exact h
    · exact absurd hw hnot

/-! ## The obligations -/

/-- Settles O45: each clause is one case of the script's head and of what its line decodes to. -/
theorem stepRunsDecodedLine : Obligations.StepRunsDecodedLine :=
  ⟨fun _ _ _ _ hs hd _ => step_of_decoded hs hd, fun _ _ _ _ hs hd => step_of_rejected hs hd, fun _ hs => step_of_script_nil hs⟩

/-- Settles O54, by the pending line: none or an undecodable one, a byte, a dispatch, or a step that always completes. -/
theorem stepsStopOnlyWhereTheSpecSaysSo : Obligations.StepsStopOnlyWhereTheSpecSaysSo := by
  intro s hinv
  cases hs : s.script with
  | nil => simp [step_of_script_nil hs, not_pendingIs_of_script_nil hs]
  | cons line rest =>
    cases hd : decodeStep line with
    | error why =>
      simp only [step_of_rejected hs hd, not_pendingIs_of_rejected hs hd]
      exact ⟨by simp, fun r => by simp [hd, eq_comm (b := r)]⟩
    | ok i =>
      simp only [step_of_decoded hs hd, pendingIs_iff_of_decoded hs hd]
      rcases decodeStep_byte_or_dispatch_or_completes hd with ⟨b, rfl⟩ | ⟨now, rfl⟩ | ⟨hbyte, hdispatch, hnext⟩
      · simp [exec_stepRxByte_fault_iff, exec_stepRxByte_refused_iff, hd]
      · have hwf : ∀ q ∈ ({ s with script := rest } : State).frameQ, frameWf q = true := hinv.queue
        refine ⟨fun r => by simp [exec_stepDispatch_ne_fault now hwf], fun r => ?_⟩
        rw [exec_stepDispatch_refused_iff now hwf]
        simp [hd, altFrameWaits_iff]
      · obtain ⟨t, ht⟩ := hnext { s with script := rest }
        simp [ht, hbyte, hdispatch, hd]

end Sys2Proof.Proofs.Stops

/-! # The invariant of every reachable state

The base case and the step of the induction behind R53 and R322 (f): the session state is in the invariant, the operations of the decoder, the host
operations and a byte keep it, and so does every step. -/

namespace Sys2Proof.Proofs.Invariant

open Sys2Proof Sys2Proof.Machine Sys2Proof.Laws Sys2Proof.Proofs.Stops

/-! ## What the invariant reads -/

/-- The invariant reads seven fields alone. -/
theorem inv_of_same_fields {s t : State} (h : Inv s) (hcfg : t.cfg = s.cfg := by rfl) (hpump : t.pumpState = s.pumpState := by rfl)
    (hhs : t.hs = s.hs := by rfl) (hsale : t.sale = s.sale := by rfl) (hcounters : t.counters = s.counters := by rfl)
    (hbuf : t.rxBuf = s.rxBuf := by rfl) (hqueue : t.frameQ = s.frameQ := by rfl) : Inv t where
  everOk_eq := hhs ▸ h.everOk_eq
  buffer := hbuf ▸ h.buffer
  queue := hqueue ▸ h.queue
  pending := by simpa only [hsale, hhs] using h.pending
  armed := by simpa only [hsale, hhs] using h.armed
  noTracker := by simpa only [hcfg, hsale, hcounters] using h.noTracker
  window := by simpa only [hsale, hpump] using h.window
  uncounted := by simpa only [hsale] using h.uncounted

/-- With the tracker present, the pump state, the sale and the counters may change as long as an AUTHORIZE or a target stands only after the handshake, and an
active window is uncounted and in a state of its own (R53 (e), R322 (f)). -/
theorem inv_of_tracker {s t : State} (h : Inv s) (htracker : s.cfg.trackerPresent = true) (hcont : Continues s t) (hhs : t.hs = s.hs)
    (hpending : t.sale.authorizePending = true → s.hs.ok = true) (harmed : t.sale.presetTargetMl ≠ none → s.hs.ok = true)
    (hwindow : t.sale.active = true → t.pumpState = .authorized ∨ t.pumpState = .filling ∨ t.pumpState = .suspended)
    (huncounted : t.sale.active = true → t.sale.countersBumped = false) : Inv t where
  everOk_eq := hhs ▸ h.everOk_eq
  buffer := hcont.rxBuf ▸ h.buffer
  queue := hcont.frameQ ▸ h.queue
  pending := hhs ▸ hpending
  armed := hhs ▸ harmed
  noTracker := by simp [hcont.cfg, htracker]
  window := hwindow
  uncounted := huncounted

/-- With the tracker present, a sale may be written that is armed only after the handshake and opens no window. -/
theorem inv_withSale {s : State} {x : Sale} (h : Inv s) (htracker : s.cfg.trackerPresent = true)
    (hpending : x.authorizePending = true → s.hs.ok = true) (harmed : x.presetTargetMl ≠ none → s.hs.ok = true)
    (hactive : x.active = s.sale.active) (hbumped : x.countersBumped = s.sale.countersBumped) : Inv { s with sale := x } :=
  inv_of_tracker h htracker (by constructor <;> simp) rfl hpending harmed (fun ha => h.window (hactive ▸ ha))
    fun ha => hbumped.trans (h.uncounted (hactive ▸ ha))

/-- The invariant does not read the samples and the marks of the sale. -/
theorem inv_withSaleMemory {s : State} {x : Sale} (h : Inv s) (htracker : s.cfg.trackerPresent = true)
    (hactive : x.active = s.sale.active) (hpending : x.authorizePending = s.sale.authorizePending := by rfl)
    (htarget : x.presetTargetMl = s.sale.presetTargetMl := by rfl)
    (hbumped : x.countersBumped = s.sale.countersBumped := by rfl) : Inv { s with sale := x } :=
  inv_withSale h htracker (hpending ▸ h.pending) (htarget ▸ h.armed) hactive hbumped

/-- Without the tracker no window is active and nothing is pending (R53 (f)). -/
theorem trackerPresent_of_active {s : State} (h : Inv s) (ha : s.sale.active = true) : s.cfg.trackerPresent = true := by
  by_contra hno
  simp [(h.noTracker (by simpa using hno)).1, Sale.initial] at ha

theorem trackerPresent_of_pending {s : State} (h : Inv s) (hp : s.sale.authorizePending = true) : s.cfg.trackerPresent = true := by
  by_contra hno
  simp [(h.noTracker (by simpa using hno)).1, Sale.initial] at hp

/-! ## The start of a session -/

theorem inv_session (p : Config.Params) (script : List (List Nat)) : Inv (State.session p script) := by
  constructor <;> simp [State.session, Sale.initial, noFrameIn]

/-! ## The operations of the decoder -/

theorem inv_emit (e : Event) {s : State} (h : Inv s) : Inv (emit e s) := inv_of_same_fields h

theorem inv_send (bytes : List Byte) {s : State} (h : Inv s) : Inv (send bytes s).2 := by
  rcases send_cases bytes s with ⟨-, hsend⟩ | ⟨-, hsend⟩ <;> rw [hsend] <;> exact inv_of_same_fields h

theorem inv_issueGeneric (code : Byte) {s : State} (h : Inv s) : Inv (issueGeneric code s).2 := by
  rcases issueGeneric_cases code s with ⟨-, hi⟩ | ⟨-, -, hi⟩ | ⟨-, -, -, hi⟩ | ⟨-, -, -, hi⟩ <;> rw [hi] <;>
    exact inv_of_same_fields h

/-- Acquiring the handshake only makes the invariant's premises on it easier (R281). -/
theorem inv_handshakeTouch (now : Nat) {s : State} (h : Inv s) : Inv (handshakeTouch now s) := by
  obtain ⟨heq, hbuf, hqueue, hpending, harmed, hno, hwindow, huncounted⟩ := h
  cases hok : s.hs.ok with
  | true =>
    rw [handshakeTouch_ok now hok]
    exact ⟨heq, hbuf, hqueue, hpending, harmed, hno, hwindow, huncounted⟩
  | false =>
    rw [handshakeTouch_first now hok]
    exact ⟨rfl, hbuf, hqueue, fun _ => rfl, fun _ => rfl, hno, hwindow, huncounted⟩

/-- The settlement of a window touches the counters and their mark alone (R313). -/
theorem settleSale_frame (s : State) :
    (settleSale s).hs = s.hs ∧ (settleSale s).pumpState = s.pumpState ∧
      (settleSale s).sale = { s.sale with countersBumped := (settleSale s).sale.countersBumped } := by
  rcases settleSale_cases s with ⟨-, -, hs⟩ | ⟨-, hs⟩ | ⟨-, -, hs⟩ <;> rw [hs] <;> exact ⟨rfl, rfl, rfl⟩

/-- A closed window is neither active nor armed; what is pending stays (R313). -/
theorem closeWindow_frame (s : State) :
    (closeWindow s).hs = s.hs ∧ (closeWindow s).sale.active = false ∧ (closeWindow s).sale.presetTargetMl = none ∧
      (closeWindow s).sale.authorizePending = s.sale.authorizePending := by
  obtain ⟨hhs, -, hsale⟩ := settleSale_frame s
  exact ⟨hhs, rfl, rfl, by rw [closeWindow, hsale]⟩

theorem inv_clearSaleMemory {s : State} (h : Inv s) (htracker : s.cfg.trackerPresent = true) : Inv (clearSaleMemory s) :=
  inv_withSaleMemory h htracker rfl

theorem inv_if_clearSaleMemory (b : Bool) {s : State} (h : Inv s) (htracker : s.cfg.trackerPresent = true) :
    Inv (if b then clearSaleMemory s else s) := by
  cases b
  · exact h
  · exact inv_clearSaleMemory h htracker

/-- A state may be entered that holds an open window, or any state when no window is open (R322 (f)). -/
theorem inv_enterState {new : PumpState} {s : State} (h : Inv s)
    (hwindow : s.sale.active = true → new = .authorized ∨ new = .filling ∨ new = .suspended) :
    Inv { s with pumpState := new, hintState := none } := by
  obtain ⟨heq, hbuf, hqueue, hpending, harmed, hno, -, huncounted⟩ := h
  exact ⟨heq, hbuf, hqueue, hpending, harmed, hno, hwindow, huncounted⟩

theorem opensSale_eq_true_iff {new : PumpState} : opensSale new = true ↔ new = .authorized ∨ new = .filling := by
  cases new <;> simp [opensSale]

/-- A status changes the state and then the window by the class of the new state (R265, R310): the window opens, stays as it is in a state that may hold it, or
is closed. -/
theorem inv_setState (new : PumpState) {s : State} (h : Inv s) : Inv (setState new s) := by
  cases htracker : s.cfg.trackerPresent with
  | false =>
    rw [setState_noTracker htracker]
    exact inv_emit _ (inv_enterState h fun hactive => absurd (trackerPresent_of_active h hactive) (by simp [htracker]))
  | true =>
    rw [setState_tracker htracker]
    set u := emit (.statusChanged new) { s with pumpState := new, hintState := none } with hu
    have hcont : Continues s u := by constructor <;> simp [hu]
    have hstay (hwindow : s.sale.active = true → new = .authorized ∨ new = .filling ∨ new = .suspended) : Inv u :=
      inv_emit _ (inv_enterState h hwindow)
    rcases onStatus_cases s.pumpState new u with
      ⟨hopens, -, ht⟩ | ⟨hopens, -, ht⟩ | ⟨-, -, ht⟩ | ⟨-, hclosed, ht⟩ | ⟨hsuspended, ht⟩ <;> rw [ht]
    · rw [opensSale_eq_true_iff] at hopens
      exact inv_of_tracker h htracker (hcont.trans (continues_openWindow u)) rfl h.pending h.armed
        (fun _ => hopens.imp_right .inl) fun _ => rfl
    · rw [opensSale_eq_true_iff] at hopens
      exact hstay fun _ => hopens.imp_right .inl
    · obtain ⟨hhs, hactive, htarget, hpending⟩ := closeWindow_frame u
      refine inv_if_clearSaleMemory _ ?_ (((continues_closeWindow u).cfg ▸ htracker))
      exact inv_of_tracker h htracker (hcont.trans (continues_closeWindow u)) hhs (hpending ▸ h.pending) (by simp [htarget])
        (by simp [hactive]) (by simp [hactive])
    · exact inv_if_clearSaleMemory _ (hstay fun hactive => absurd hactive (by simpa [hu] using hclosed)) htracker
    · exact hstay fun _ => .inr (.inr hsuspended)

theorem inv_rememberSample (volumeCl amountC : Nat) {s : State} (htracker : s.cfg.trackerPresent = true) (h : Inv s) :
    Inv (rememberSample volumeCl amountC s) := by
  unfold rememberSample
  split
  · exact inv_withSaleMemory h htracker rfl
  · exact h

/-- The watch issues STOP and marks it when it went out (R318). -/
theorem inv_autoStop (volumeCl : Nat) {s : State} (htracker : s.cfg.trackerPresent = true) (h : Inv s) : Inv (autoStop volumeCl s) := by
  rcases autoStop_cases volumeCl s with ⟨-, ht⟩ | ⟨-, -, ht⟩ | ⟨-, -, ht⟩ <;> rw [ht]
  · exact h
  · exact inv_issueGeneric _ h
  · exact inv_of_same_fields (inv_withSaleMemory (x := { s.sale with stopSent := true }) h htracker rfl)

theorem inv_sample (volumeCl amountC : Nat) {s : State} (htracker : s.cfg.trackerPresent = true) (h : Inv s) :
    Inv (sample volumeCl amountC s) := by
  refine inv_autoStop volumeCl ?_ (inv_rememberSample volumeCl amountC htracker h)
  unfold rememberSample
  split <;> exact htracker

/-- Busy clears at most what is pending (R213). -/
theorem inv_busy {s : State} (h : Inv s) : Inv (busy s) := by
  rcases busy_cases s with ⟨-, ht⟩ | ⟨-, -, ht⟩ | ⟨hpending, -, ht⟩ <;> rw [ht]
  · exact h
  · exact inv_issueGeneric _ h
  · exact inv_of_same_fields (inv_withSale (x := { s.sale with authorizePending := false }) h (trackerPresent_of_pending h hpending)
      nofun h.armed rfl rfl)

/-- Everything decoded keeps the invariant. -/
theorem keptByDecoding_inv : KeptByDecoding Inv where
  emit e _ _ h := inv_emit e h
  ack _ h := inv_send minAck h
  touch now _ h := inv_handshakeTouch now h
  setState new _ h := inv_setState new h
  sample v a _ htracker h := inv_sample v a htracker h
  nozzle _ _ _ _ h := inv_of_same_fields h
  busy _ h := inv_busy h

/-! ## The host operations -/

/-- A preset is armed after the handshake and with the tracker alone (R353). -/
theorem inv_sendPreset (volumeCl : Int) {s : State} (hok : s.hs.ok = true) (h : Inv s) : Inv (sendPreset volumeCl s) := by
  have hsent := inv_send (encodePreset s.deviceAddr volumeCl s.crcOrder) h
  have hcont := continues_send (encodePreset s.deviceAddr volumeCl s.crcOrder) s
  unfold sendPreset
  dsimp only
  split
  case isTrue harms =>
    obtain ⟨-, htracker⟩ := Bool.and_eq_true_iff.1 harms
    exact inv_withSale hsent (hcont.cfg ▸ htracker) (fun _ => hcont.handshake hok) (fun _ => hcont.handshake hok) rfl rfl
  case isFalse => exact hsent

theorem inv_runHostOp (op : HostOp) {s t : State} (h : Inv s) (ht : runHostOp op s = .next t) : Inv t := by
  cases op with
  | sendPresetVolume v =>
    simp only [runHostOp, execHostSendPresetVolume] at ht
    split at ht
    case isTrue =>
      cases ht
      exact inv_emit _ h
    case isFalse hgate =>
      split at ht
      · cases ht
        exact inv_emit _ h
      · cases ht
        exact inv_sendPreset v (by simpa [gateAdmits] using hgate) h
  | sendTotalsRequest =>
    simp only [runHostOp, execHostSendTotalsRequest] at ht
    split at ht
    · cases ht
      exact inv_emit _ h
    · cases ht
      exact inv_send _ h
  | intentHint state =>
    simp only [runHostOp, execHostIntentHint] at ht
    split at ht
    · cases ht
      exact inv_of_same_fields h
    · cases ht
      exact h
  | sendGeneric code =>
    cases ht
    exact inv_issueGeneric code h
  | sendMinPoll | sendMinAck =>
    cases ht
    exact inv_send _ h
  | setCrcOrder | setAutoAck | setAutoPoll | transportOpen | transportClose =>
    cases ht
    exact inv_of_same_fields h

/-! ## A byte -/

/-- A buffer and one more byte hold no complete frame when the buffer holds none and the byte completes none (R53 (b), R161). -/
theorem noFrameIn_append {buf : List Byte} {b : Byte} (hbuf : noFrameIn buf = true)
    (hb : b = Config.trailer → hasLongShape (buf ++ [b]) = false ∧ hasShortShape (buf ++ [b]) = false) :
    noFrameIn (buf ++ [b]) = true := by
  simp only [noFrameIn, List.all_eq_true, List.mem_range, Bool.not_eq_true'] at hbuf ⊢
  intro t ht
  rcases Nat.lt_or_ge t buf.length with hlt | hge
  · have hsame : completeAt (buf ++ [b]) t = completeAt buf t := by
      simp only [completeAt, List.getElem?_append_left hlt, List.take_append_of_le_length (Nat.succ_le_of_lt hlt)]
    exact hsame.trans (hbuf t hlt)
  · obtain rfl : t = buf.length := by simp at ht; omega
    by_cases htrailer : b = Config.trailer
    · obtain ⟨hlong, hshort⟩ := hb htrailer
      simp [completeAt, List.take_of_length_le, hlong, hshort]
    · simp [completeAt, htrailer]

/-- What a trailer cuts has the form of R53 (c). -/
theorem frameWf_long {buf : List Byte} (h : hasLongShape (buf ++ [Config.trailer]) = true) :
    frameWf ⟨.long, buf ++ [Config.trailer]⟩ = true := by
  simp only [hasLongShape, Bool.and_eq_true] at h
  simpa [frameWf, Config.minLongLen, Config.trailer, Config.etx] using h

theorem frameWf_short {buf : List Byte} (h : hasShortShape (buf ++ [Config.trailer]) = true) :
    frameWf ⟨.short, buf ++ [Config.trailer]⟩ = true := by
  obtain ⟨hlen, hlead⟩ := hasShortShape_append.1 h
  obtain ⟨lead, code, rfl⟩ := List.length_eq_two.1 hlen
  simpa [frameWf, Config.trailer] using hlead

/-- A trailer that cuts nothing leaves the state; one that completes a frame queues the buffer, the long shape first (R164). -/
theorem cutFrame_next_cases {s t : State} (ht : cutFrame s = .next t) :
    (hasLongShape s.rxBuf = false ∧ hasShortShape s.rxBuf = false ∧ t = s) ∨
      ∃ shape, (shape = .long ∧ hasLongShape s.rxBuf = true ∨ shape = .short ∧ hasShortShape s.rxBuf = true) ∧
        t = { s with frameQ := s.frameQ ++ [⟨shape, s.rxBuf⟩], rxBuf := [] } := by
  have henqueue {shape : Shape} (hnext : enqueueBuffer shape s = .next t) :
      t = { s with frameQ := s.frameQ ++ [⟨shape, s.rxBuf⟩], rxBuf := [] } := by
    unfold enqueueBuffer at hnext
    split at hnext <;> cases hnext
    rfl
  unfold cutFrame at ht
  split at ht
  · cases ht
  · split at ht
    case isTrue hlong => exact .inr ⟨.long, .inl ⟨rfl, hlong⟩, henqueue ht⟩
    case isFalse hlong =>
      split at ht
      case isTrue hshort => exact .inr ⟨.short, .inr ⟨rfl, hshort⟩, henqueue ht⟩
      case isFalse hshort =>
        cases ht
        exact .inl ⟨Bool.eq_false_iff.2 hlong, Bool.eq_false_iff.2 hshort, rfl⟩

/-- A byte is buffered without completing a frame, or completes one, which is queued in its form (R164). -/
theorem receiveByte_next_cases {b : Byte} {s t : State} (ht : receiveByte b s = .next t) :
    ((b = Config.trailer → hasLongShape (s.rxBuf ++ [b]) = false ∧ hasShortShape (s.rxBuf ++ [b]) = false) ∧
        t = { s with rxBuf := s.rxBuf ++ [b] }) ∨
      ∃ shape, frameWf ⟨shape, s.rxBuf ++ [b]⟩ = true ∧
        t = { s with frameQ := s.frameQ ++ [⟨shape, s.rxBuf ++ [b]⟩], rxBuf := [] } := by
  unfold receiveByte at ht
  split at ht
  · cases ht
  · split at ht
    case isTrue htrailer =>
      subst htrailer
      rcases cutFrame_next_cases ht with ⟨hlong, hshort, rfl⟩ | ⟨shape, hshape, rfl⟩
      · exact .inl ⟨fun _ => ⟨hlong, hshort⟩, rfl⟩
      · refine .inr ⟨shape, ?_, rfl⟩
        rcases hshape with ⟨rfl, hlong⟩ | ⟨rfl, hshort⟩
        · exact frameWf_long hlong
        · exact frameWf_short hshort
    case isFalse hother =>
      cases ht
      exact .inl ⟨fun htrailer => absurd htrailer hother, rfl⟩

theorem inv_receiveByte {b : Byte} {s t : State} (h : Inv s) (ht : receiveByte b s = .next t) : Inv t := by
  obtain ⟨heq, hbuf, hqueue, hpending, harmed, hno, hwindow, huncounted⟩ := h
  rcases receiveByte_next_cases ht with ⟨hnone, rfl⟩ | ⟨shape, hwf, rfl⟩
  · exact ⟨heq, noFrameIn_append hbuf hnone, hqueue, hpending, harmed, hno, hwindow, huncounted⟩
  · refine ⟨heq, rfl, fun q hq => ?_, hpending, harmed, hno, hwindow, huncounted⟩
    rcases List.mem_append.1 hq with hold | hnew
    · exact hqueue q hold
    · exact List.mem_singleton.1 hnew ▸ hwf

/-! ## A step -/

/-- Taking the oldest frame from the queue keeps the invariant (R62). -/
theorem inv_pop {s : State} {q : Frame} {rest : List Frame} (h : Inv s) (hq : s.frameQ = q :: rest) : Inv { s with frameQ := rest } := by
  obtain ⟨heq, hbuf, hqueue, hpending, harmed, hno, hwindow, huncounted⟩ := h
  exact ⟨heq, hbuf, fun p hp => hqueue p (hq ▸ List.mem_cons_of_mem q hp), hpending, harmed, hno, hwindow, huncounted⟩

/-- A `Dispatch` on an empty queue changes nothing (R62; log entry 8). -/
theorem execStepDispatch_nil (now : Nat) {s : State} (hq : s.frameQ = []) : execStepDispatch now s = .next s := by
  simp [execStepDispatch, hq]

theorem inv_stepDispatch {now : Nat} {s t : State} (h : Inv s) (ht : exec (.stepDispatch now) s = .next t) : Inv t := by
  cases hq : s.frameQ with
  | nil =>
    cases (execStepDispatch_nil now hq).symm.trans ht
    exact h
  | cons q rest => exact keptByDecoding_inv.dispatch hq (inv_pop h hq) ht

theorem inv_stepTimerFire {s t : State} (h : Inv s) (ht : exec .stepTimerFire s = .next t) : Inv t := by
  simp only [exec, execStepTimerFire] at ht
  split at ht <;> cases ht
  · exact inv_send minPoll h
  · exact h

/-- An instruction that a line of the script stands for (R7, R97) keeps the invariant. -/
theorem inv_exec_of_decodeStep {line : List Nat} {i : Instr} {s t : State} (hd : decodeStep line = .ok i) (h : Inv s)
    (ht : exec i s = .next t) : Inv t := by
  rcases decodeStep_ok_cases hd with ⟨b, rfl⟩ | ⟨now, rfl⟩ | rfl | ⟨op, rfl⟩ | rfl | ⟨load, rfl⟩
  · exact inv_receiveByte h ht
  · exact inv_stepDispatch h ht
  · exact inv_stepTimerFire h ht
  · exact inv_runHostOp op h ht
  · cases ht
    exact inv_of_same_fields h
  · cases ht
    exact inv_session _ _

/-! ## The obligations -/

/-- Settles O49: the reset state is the start of a session. -/
theorem resetIsInInvariant : Obligations.ResetIsInInvariant :=
  inv_session Config.Params.default []

/-- Settles O50, by the line at the head of the script: without one nothing changes, and each of the six steps keeps the invariant. -/
theorem everyStepKeepsInvariant : Obligations.EveryStepKeepsInvariant := by
  intro s t h ht
  cases hs : s.script with
  | nil =>
    rw [step_of_script_nil hs] at ht
    cases ht
    exact h
  | cons line rest =>
    cases hd : decodeStep line with
    | error why =>
      rw [step_of_rejected hs hd] at ht
      cases ht
    | ok i =>
      rw [step_of_decoded hs hd] at ht
      exact inv_exec_of_decodeStep hd (inv_of_same_fields h) ht

/-- Settles O25: the session state under the default parameters, field by field. -/
theorem resetValuesOfEveryField : Obligations.ResetValuesOfEveryField := by
  rintro _ rfl
  simp [State.reset, State.session, Sale.initial, Config.resetCrcOrder, Config.resetPollMs, Config.Params.default]

end Sys2Proof.Proofs.Invariant

/-! # Time is never read

Two states that differ in the timer's period and the handshake's timestamp alone: every operation keeps them so, and so does a step (R32, R42, R440). -/

namespace Sys2Proof.Proofs.Time

open Sys2Proof Sys2Proof.Machine Sys2Proof.Laws Sys2Proof.Proofs.Stops Sys2Proof.Proofs.Invariant

/-! ## States and outcomes that differ in time alone -/

/-- `s` with another period of the timer and another timestamp of the handshake. -/
def retime (p : Nat) (l : Option Nat) (s : State) : State :=
  { s with pollIntervalMs := p, hs := { s.hs with lastOkTimestamp := l } }

theorem sameButTime_iff {s t : State} : sameButTime s t ↔ ∃ p l, t = retime p l s :=
  ⟨fun h => ⟨_, _, h⟩, by rintro ⟨p, l, rfl⟩; rfl⟩

/-- A function of the state whose result does not depend on time, but for the time it holds. -/
def IgnoresTime (f : State → State) : Prop := ∀ s t, sameButTime s t → sameButTime (f s) (f t)

/-- A function of the state whose outcome does not depend on time, but for the time it holds. -/
def OutcomeIgnoresTime (f : State → Result) : Prop := ∀ s t, sameButTime s t → sameOutcomeButTime (f s) (f t)

/-- A function that another time passes through ignores it. -/
theorem ignoresTime_of_retime {f : State → State} (h : ∀ p l s, f (retime p l s) = retime p l (f s)) : IgnoresTime f := by
  intro s t hst
  obtain ⟨p, l, rfl⟩ := sameButTime_iff.1 hst
  exact sameButTime_iff.2 ⟨p, l, h p l s⟩

theorem ignoresTime_id : IgnoresTime fun s => s := fun _ _ h => h

theorem IgnoresTime.comp {f g : State → State} (hg : IgnoresTime g) (hf : IgnoresTime f) : IgnoresTime fun s => g (f s) :=
  fun _ _ h => hg _ _ (hf _ _ h)

theorem IgnoresTime.foldl {α : Type} {f : α → State → State} (hf : ∀ a, IgnoresTime (f a)) (l : List α) :
    IgnoresTime fun s => l.foldl (fun s a => f a s) s := by
  induction l with
  | nil => exact ignoresTime_id
  | cons a l ih => exact ih.comp (hf a)

/-- A choice by a condition that does not read time. -/
theorem IgnoresTime.ite {c : State → Prop} [∀ s, Decidable (c s)] {f g : State → State} (hc : ∀ p l s, c (retime p l s) ↔ c s)
    (hf : IgnoresTime f) (hg : IgnoresTime g) : IgnoresTime fun s => if c s then f s else g s := by
  intro s t h
  have hiff : c t ↔ c s := by
    obtain ⟨p, l, rfl⟩ := sameButTime_iff.1 h
    exact hc p l s
  dsimp only
  split
  case isTrue hcs => rw [if_pos (hiff.2 hcs)]; exact hf s t h
  case isFalse hcs => rw [if_neg (mt hiff.1 hcs)]; exact hg s t h

theorem OutcomeIgnoresTime.ite {c : State → Prop} [∀ s, Decidable (c s)] {f g : State → Result} (hc : ∀ p l s, c (retime p l s) ↔ c s)
    (hf : OutcomeIgnoresTime f) (hg : OutcomeIgnoresTime g) : OutcomeIgnoresTime fun s => if c s then f s else g s := by
  intro s t h
  have hiff : c t ↔ c s := by
    obtain ⟨p, l, rfl⟩ := sameButTime_iff.1 h
    exact hc p l s
  dsimp only
  split
  case isTrue hcs => rw [if_pos (hiff.2 hcs)]; exact hf s t h
  case isFalse hcs => rw [if_neg (mt hiff.1 hcs)]; exact hg s t h

/-- An outcome that is a next state. -/
theorem IgnoresTime.next {f : State → State} (hf : IgnoresTime f) : OutcomeIgnoresTime fun s => .next (f s) := hf

theorem outcomeIgnoresTime_fault (r : Fault) : OutcomeIgnoresTime fun _ => .fault r := fun _ _ _ => rfl

theorem outcomeIgnoresTime_refused (r : Refusal) : OutcomeIgnoresTime fun _ => .refused r := fun _ _ _ => rfl

/-! ## Reports and transmit -/

theorem ignoresTime_emit (e : Event) : IgnoresTime (emit e) := ignoresTime_of_retime fun _ _ _ => rfl

theorem ignoresTime_warnIf (w : Option Warning) : IgnoresTime (warnIf w) := by
  cases w
  · exact ignoresTime_id
  · exact ignoresTime_emit _

/-- Whether a send went out does not depend on time, and neither does what it writes (R199). -/
theorem send_retime (bytes : List Byte) (p : Nat) (l : Option Nat) (s : State) :
    send bytes (retime p l s) = ((send bytes s).1, retime p l (send bytes s).2) := by
  rcases send_cases bytes s with ⟨hc, h⟩ | ⟨hc, h⟩ <;> rw [h]
  · exact send_sent bytes hc
  · exact send_failed bytes hc

theorem issueGeneric_retime (code : Byte) (p : Nat) (l : Option Nat) (s : State) :
    issueGeneric code (retime p l s) = ((issueGeneric code s).1, retime p l (issueGeneric code s).2) := by
  change (if !gateAdmits s (.generic code) then (false, emit (.commandRefused .noHandshake) (retime p l s))
    else if resumeRefused s code then (false, emit (.commandRefused .nozzleStowed) (retime p l s))
    else send (encodeGeneric s.deviceAddr s.nozzle code s.crcOrder) (retime p l s)) = _
  unfold issueGeneric
  split
  · rfl
  · split
    · rfl
    · exact send_retime _ p l s

theorem ignoresTime_send (bytes : State → List Byte) (hbytes : ∀ p l s, bytes (retime p l s) = bytes s := by intros; rfl) :
    IgnoresTime fun s => (send (bytes s) s).2 :=
  ignoresTime_of_retime fun p l s => by rw [hbytes, send_retime]

theorem ignoresTime_issueGeneric (code : State → Byte) (hcode : ∀ p l s, code (retime p l s) = code s := by intros; rfl) :
    IgnoresTime fun s => (issueGeneric (code s) s).2 :=
  ignoresTime_of_retime fun p l s => by rw [hcode, issueGeneric_retime]

/-- Whether a command goes out does not depend on time (R351). -/
theorem issueGeneric_fst_retime (code : State → Byte) (hcode : ∀ p l s, code (retime p l s) = code s := by intros; rfl) (p : Nat)
    (l : Option Nat) (s : State) : (issueGeneric (code (retime p l s)) (retime p l s)).1 = (issueGeneric (code s) s).1 := by
  rw [hcode, issueGeneric_retime]

/-! ## The sale window and the state machine -/

theorem ignoresTime_settleSale : IgnoresTime settleSale :=
  .ite (fun _ _ _ => .rfl) (ignoresTime_of_retime fun _ _ _ => rfl)
    (.ite (fun _ _ _ => .rfl) (ignoresTime_emit _) ignoresTime_id)

theorem ignoresTime_closeWindow : IgnoresTime closeWindow :=
  (ignoresTime_of_retime (f := fun s => { s with sale := { s.sale with active := false, presetTargetMl := none } }) fun _ _ _ => rfl).comp
    ignoresTime_settleSale

/-- `onStatus` is its three tests in order, and none reads time (R310). -/
theorem ignoresTime_onStatus (prev new : PumpState) : IgnoresTime (onStatus prev new) := by
  have hopen : IgnoresTime fun s => if opensSale new && !s.sale.active then openWindow s else s :=
    .ite (fun _ _ _ => .rfl) (ignoresTime_of_retime fun _ _ _ => rfl) ignoresTime_id
  have hclose : IgnoresTime fun s => if isTerminal new && s.sale.active then closeWindow s else s :=
    .ite (fun _ _ _ => .rfl) ignoresTime_closeWindow ignoresTime_id
  have hclear : IgnoresTime fun s => if isResetClass new && prev != new then clearSaleMemory s else s :=
    .ite (fun _ _ _ => .rfl) (ignoresTime_of_retime fun _ _ _ => rfl) ignoresTime_id
  exact hclear.comp (hclose.comp hopen)

theorem ignoresTime_setState (new : PumpState) : IgnoresTime (setState new) := by
  intro s t h
  obtain ⟨p, l, rfl⟩ := sameButTime_iff.1 h
  have henter : IgnoresTime fun s => emit (.statusChanged new) { s with pumpState := new, hintState := none } :=
    ignoresTime_of_retime fun _ _ _ => rfl
  exact IgnoresTime.ite (c := fun s => s.cfg.trackerPresent = true) (fun _ _ _ => .rfl)
    ((ignoresTime_onStatus s.pumpState new).comp henter) henter s _ h

/-- The touch writes the timestamp; what else it does depends on the handshake alone (R281). -/
theorem ignoresTime_handshakeTouch (now : Nat) : IgnoresTime (handshakeTouch now) :=
  .ite (fun _ _ _ => .rfl)
    (fun s t h => by obtain ⟨p, l, rfl⟩ := sameButTime_iff.1 h; exact sameButTime_iff.2 ⟨p, some now, rfl⟩)
    (fun s t h => by obtain ⟨p, l, rfl⟩ := sameButTime_iff.1 h; exact sameButTime_iff.2 ⟨p, some now, rfl⟩)

theorem ignoresTime_statusEvent (code : Byte) (table : StatusTable) : IgnoresTime (statusEvent code table) := by
  intro s t h
  obtain ⟨p, l, rfl⟩ := sameButTime_iff.1 h
  cases hmap : mapStatus s.cfg code table with
  | none =>
    rw [statusEvent_unmapped hmap, statusEvent_unmapped (s := retime p l s) hmap]
    exact ignoresTime_emit _ s _ h
  | some new =>
    rw [statusEvent_mapped hmap, statusEvent_mapped (s := retime p l s) hmap]
    exact ignoresTime_setState new s _ h

theorem ignoresTime_statusItem (code : Byte) (table : StatusTable) (now : Nat) : IgnoresTime (statusItem code table now) :=
  (ignoresTime_statusEvent code table).comp (ignoresTime_handshakeTouch now)

/-! ## Samples, Busy and the preset -/

theorem ignoresTime_rememberSample (volumeCl amountC : Nat) : IgnoresTime (rememberSample volumeCl amountC) :=
  .ite (fun _ _ _ => .rfl) (ignoresTime_of_retime fun _ _ _ => rfl) ignoresTime_id

/-- A command that is marked when it went out (R213, R318). -/
theorem ignoresTime_issueThenMark (code : State → Byte) {mark : State → State} (hmark : IgnoresTime mark)
    (hcode : ∀ p l s, code (retime p l s) = code s := by intros; rfl) :
    IgnoresTime fun s => if (issueGeneric (code s) s).1 then mark (issueGeneric (code s) s).2 else (issueGeneric (code s) s).2 :=
  .ite (fun p l s => by rw [issueGeneric_fst_retime code hcode]) (hmark.comp (ignoresTime_issueGeneric code hcode))
    (ignoresTime_issueGeneric code hcode)

theorem ignoresTime_autoStop (volumeCl : Nat) : IgnoresTime (autoStop volumeCl) :=
  .ite (fun _ _ _ => .rfl)
    (ignoresTime_issueThenMark (fun s => s.cfg.codeStop) (mark := fun s => { s with sale := { s.sale with stopSent := true } })
      (ignoresTime_of_retime fun _ _ _ => rfl))
    ignoresTime_id

theorem ignoresTime_sample (volumeCl amountC : Nat) : IgnoresTime (sample volumeCl amountC) :=
  (ignoresTime_autoStop volumeCl).comp (ignoresTime_rememberSample volumeCl amountC)

theorem ignoresTime_busy : IgnoresTime busy :=
  .ite (fun _ _ _ => .rfl)
    (ignoresTime_issueThenMark (fun s => s.cfg.codeAuthorize)
      (mark := fun s => { s with sale := { s.sale with authorizePending := false } }) (ignoresTime_of_retime fun _ _ _ => rfl))
    ignoresTime_id

theorem ignoresTime_sendPreset (volumeCl : Int) : IgnoresTime (sendPreset volumeCl) := by
  have hsend : IgnoresTime fun s => (send (encodePreset s.deviceAddr volumeCl s.crcOrder) s).2 := ignoresTime_send _
  refine .ite (fun p l s => ?_) ((ignoresTime_of_retime fun _ _ _ => rfl : IgnoresTime (armPreset volumeCl)).comp hsend) hsend
  change ((send (encodePreset s.deviceAddr volumeCl s.crcOrder) (retime p l s)).1 && s.cfg.trackerPresent) = true ↔ _
  rw [send_retime]

/-! ## Items and records -/

theorem ignoresTime_applyItem (now : Nat) (item : Item) : IgnoresTime (applyItem now item) := by
  cases item with
  | status code table => exact ignoresTime_statusItem code table now
  | volume v a =>
    exact .ite (c := fun s => s.cfg.trackerPresent = true) (fun _ _ _ => .rfl)
      ((ignoresTime_sample v a).comp (ignoresTime_emit _)) (ignoresTime_emit _)
  | nozzlePrice => exact ignoresTime_of_retime fun _ _ _ => rfl
  | totals => exact ignoresTime_emit _

theorem ignoresTime_applyItems (now : Nat) (items : List Item) : IgnoresTime (applyItems now items) :=
  .foldl (ignoresTime_applyItem now) items

/-- An item that is read from the parameters (R231, R233). -/
theorem ignoresTime_applyItem_of_cfg (now : Nat) (item : Config.Params → Item) : IgnoresTime fun s => applyItem now (item s.cfg) s := by
  intro s t h
  obtain ⟨p, l, rfl⟩ := sameButTime_iff.1 h
  exact ignoresTime_applyItem now (item s.cfg) s _ h

theorem ignoresTime_recordStatus (now : Nat) (data : List Byte) : IgnoresTime (recordStatus now data) := by
  unfold recordStatus
  split
  · exact ignoresTime_applyItem_of_cfg now fun p => .status _ p.subrecStatusTable
  · exact ignoresTime_emit _

theorem ignoresTime_applyRecord (totals : Bool) (now : Nat) (r : SubRecord) : IgnoresTime (applyRecord totals now r) := by
  have hvolume : IgnoresTime (recordVolume now r.data) :=
    .ite (fun _ _ _ => .rfl) (ignoresTime_applyItem now _) (ignoresTime_emit _)
  have htotals : IgnoresTime (recordTotals now r.data) :=
    .ite (fun _ _ _ => .rfl) (ignoresTime_applyItem now _) (ignoresTime_emit _)
  have hnozzle : IgnoresTime (recordNozzlePrice now r.data) :=
    .ite (fun _ _ _ => .rfl) (ignoresTime_applyItem_of_cfg now fun p => nozzlePriceItem p r.data) (ignoresTime_emit _)
  exact .ite (fun _ _ _ => .rfl) (ignoresTime_recordStatus now r.data)
    (.ite (fun _ _ _ => .rfl) hvolume
      (.ite (fun _ _ _ => .rfl) (.ite (fun _ _ _ => .rfl) htotals hnozzle) (ignoresTime_emit _)))

theorem ignoresTime_walk (totals : Bool) (now : Nat) (payload : List Byte) : IgnoresTime (walk totals now payload) :=
  (ignoresTime_warnIf _).comp (.foldl (ignoresTime_applyRecord totals now) _)

theorem ignoresTime_statusReply (payload : List Byte) (table : StatusTable) (now : Nat) : IgnoresTime (statusReply payload table now) := by
  unfold statusReply
  split
  · exact ignoresTime_applyItem now _
  · exact ignoresTime_emit _

/-! ## Frames -/

theorem ignoresTime_acceptLong (command : Byte) (f : LongFrame) : IgnoresTime (acceptLong command f) := by
  have hack : IgnoresTime autoAcknowledge := .ite (fun _ _ _ => .rfl) (ignoresTime_send fun _ => minAck) ignoresTime_id
  exact (ignoresTime_warnIf _).comp (hack.comp (ignoresTime_emit _))

/-- A Long frame's checks do not read time, so only its handler could (R210). -/
theorem outcomeIgnoresTime_receiveLong (command : Byte) (f : LongFrame) {handler : State → Result} (h : OutcomeIgnoresTime handler) :
    OutcomeIgnoresTime (receiveLong command f handler) := by
  have haccepted : OutcomeIgnoresTime fun s => handler (acceptLong command f s) :=
    fun s t hst => h _ _ (ignoresTime_acceptLong command f s t hst)
  exact .ite (fun _ _ _ => .rfl) (ignoresTime_emit _).next (.ite (fun _ _ _ => .rfl) haccepted (ignoresTime_emit _).next)

theorem outcomeIgnoresTime_receiveShort (code : Byte) {handler : State → State} (h : IgnoresTime handler) :
    OutcomeIgnoresTime (receiveShort code handler) :=
  .ite (fun _ _ _ => .rfl) (ignoresTime_emit _).next (h.comp (ignoresTime_emit _)).next

theorem outcomeIgnoresTime_altFrame (command : Byte) (payload : List Byte) (now : Nat) :
    OutcomeIgnoresTime (altFrame command payload now) := by
  refine .ite (fun _ _ _ => .rfl) ?_ (outcomeIgnoresTime_refused _)
  split
  · exact (ignoresTime_emit _).next
  · exact (ignoresTime_applyItems now _).next

/-- Whatever frame was decoded, by the kind of its handler (R210 to R224). -/
theorem outcomeIgnoresTime_runFrame (i : Instr) : OutcomeIgnoresTime (runFrame i) := by
  unfold runFrame
  split
  case h_1 | h_2 | h_19 => exact outcomeIgnoresTime_receiveLong _ _ (ignoresTime_statusReply _ _ _).next
  case h_20 | h_21 | h_22 | h_23 => exact outcomeIgnoresTime_receiveLong _ _ (outcomeIgnoresTime_altFrame _ _ _)
  case h_24 => exact outcomeIgnoresTime_receiveLong _ _ (ignoresTime_emit _).next
  case h_25 | h_26 => exact outcomeIgnoresTime_receiveShort _ ignoresTime_id
  case h_27 => exact outcomeIgnoresTime_receiveShort _ ignoresTime_busy
  case h_28 => exact outcomeIgnoresTime_receiveShort _ (ignoresTime_emit _)
  case h_29 => exact outcomeIgnoresTime_fault _
  all_goals exact outcomeIgnoresTime_receiveLong _ _ (ignoresTime_walk _ _ _).next

/-! ## The steps -/

theorem outcomeIgnoresTime_dispatchFrame (now : Nat) (q : Frame) : OutcomeIgnoresTime (dispatchFrame now q) := by
  refine .ite (fun _ _ _ => .rfl) (ignoresTime_emit _).next ?_
  split
  · exact outcomeIgnoresTime_runFrame _
  · exact outcomeIgnoresTime_fault _

theorem outcomeIgnoresTime_stepDispatch (now : Nat) : OutcomeIgnoresTime (execStepDispatch now) := by
  intro s t h
  obtain ⟨p, l, rfl⟩ := sameButTime_iff.1 h
  cases hq : s.frameQ with
  | nil =>
    rw [execStepDispatch_nil now hq, execStepDispatch_nil now (s := retime p l s) hq]
    exact h
  | cons q rest =>
    rw [execStepDispatch_cons hq, execStepDispatch_cons (s := retime p l s) hq]
    exact outcomeIgnoresTime_dispatchFrame now q _ _ (sameButTime_iff.2 ⟨p, l, rfl⟩)

theorem outcomeIgnoresTime_enqueueBuffer (shape : Shape) : OutcomeIgnoresTime (enqueueBuffer shape) :=
  .ite (fun _ _ _ => .rfl) (outcomeIgnoresTime_fault _) (IgnoresTime.next (ignoresTime_of_retime fun _ _ _ => rfl))

theorem outcomeIgnoresTime_cutFrame : OutcomeIgnoresTime cutFrame :=
  .ite (fun _ _ _ => .rfl) (outcomeIgnoresTime_refused _)
    (.ite (fun _ _ _ => .rfl) (outcomeIgnoresTime_enqueueBuffer .long)
      (.ite (fun _ _ _ => .rfl) (outcomeIgnoresTime_enqueueBuffer .short) ignoresTime_id.next))

theorem outcomeIgnoresTime_receiveByte (b : Byte) : OutcomeIgnoresTime (receiveByte b) := by
  have hbuffer : IgnoresTime fun s => { s with rxBuf := s.rxBuf ++ [b] } := ignoresTime_of_retime fun _ _ _ => rfl
  exact .ite (fun _ _ _ => .rfl) (outcomeIgnoresTime_fault _)
    (.ite (fun _ _ _ => .rfl) (fun s t h => outcomeIgnoresTime_cutFrame _ _ (hbuffer s t h)) hbuffer.next)

theorem outcomeIgnoresTime_runHostOp (op : HostOp) : OutcomeIgnoresTime (runHostOp op) := by
  cases op with
  | sendGeneric code => exact (ignoresTime_issueGeneric fun _ => code).next
  | sendPresetVolume v =>
    exact .ite (fun _ _ _ => .rfl) (ignoresTime_emit _).next
      (.ite (fun _ _ _ => .rfl) (ignoresTime_emit _).next (ignoresTime_sendPreset v).next)
  | sendTotalsRequest =>
    exact .ite (fun _ _ _ => .rfl) (ignoresTime_emit _).next
      (ignoresTime_send fun s => encodeTotalsRequest s.deviceAddr s.nozzle s.crcOrder).next
  | sendMinPoll => exact (ignoresTime_send fun _ => minPoll).next
  | sendMinAck => exact (ignoresTime_send fun _ => minAck).next
  | setAutoPoll b n =>
    intro s t h
    obtain ⟨p, l, rfl⟩ := sameButTime_iff.1 h
    exact sameButTime_iff.2 ⟨n, l, rfl⟩
  | intentHint state =>
    exact .ite (fun _ _ _ => .rfl) (IgnoresTime.next (ignoresTime_of_retime fun _ _ _ => rfl)) ignoresTime_id.next
  | setCrcOrder | setAutoAck | transportOpen | transportClose =>
    exact IgnoresTime.next (ignoresTime_of_retime fun _ _ _ => rfl)

/-- An instruction that a line of the script stands for (R7, R97) does not read time. -/
theorem outcomeIgnoresTime_exec_of_decodeStep {line : List Nat} {i : Instr} (hd : decodeStep line = .ok i) : OutcomeIgnoresTime (exec i) := by
  rcases decodeStep_ok_cases hd with ⟨b, rfl⟩ | ⟨now, rfl⟩ | rfl | ⟨op, rfl⟩ | rfl | ⟨load, rfl⟩
  · exact outcomeIgnoresTime_receiveByte b
  · exact outcomeIgnoresTime_stepDispatch now
  · exact .ite (fun _ _ _ => .rfl) (ignoresTime_send fun _ => minPoll).next ignoresTime_id.next
  · exact outcomeIgnoresTime_runHostOp op
  · exact IgnoresTime.next (ignoresTime_of_retime fun _ _ _ => rfl)
  · intro s t h
    obtain ⟨p, l, rfl⟩ := sameButTime_iff.1 h
    rfl

/-! ## The obligation -/

/-- Settles O59, by the line at the head of the script, which both states share: none, one that is refused, or one of the six steps. -/
theorem timeIsNeverRead : Obligations.TimeIsNeverRead := by
  intro s t h
  obtain ⟨p, l, rfl⟩ := sameButTime_iff.1 h
  cases hs : s.script with
  | nil =>
    rw [step_of_script_nil hs, step_of_script_nil (s := retime p l s) hs]
    exact h
  | cons line rest =>
    cases hd : decodeStep line with
    | error why =>
      rw [step_of_rejected hs hd, step_of_rejected (s := retime p l s) hs hd]
      rfl
    | ok i =>
      rw [step_of_decoded hs hd, step_of_decoded (s := retime p l s) hs hd]
      exact outcomeIgnoresTime_exec_of_decodeStep hd _ _ (sameButTime_iff.2 ⟨p, l, rfl⟩)

end Sys2Proof.Proofs.Time

/-! # Who writes the control registers and the buffers

By the class of the instruction: what is received and what is sent continues the state it starts from, an operation writes its own register, and the steps
write the buffers and the fault flag (R30 to R36, R61, R62, R75 (e), R79). -/

namespace Sys2Proof.Proofs.Writers

open Sys2Proof Sys2Proof.Machine Sys2Proof.Laws Sys2Proof.Proofs.Invariant

/-! ## The classes of instructions -/

/-- An instruction is something received, a frame sent, an operation, or one of the six steps (R96). -/
theorem instr_classes (i : Instr) :
    inboundRow i = true ∨ (∀ s, ∃ bytes, exec i s = .next (send bytes s).2) ∨ (∃ op, i = hostRow op) ∨
      (∃ b, i = .stepRxByte b) ∨ (∃ now, i = .stepDispatch now) ∨ i = .stepTimerFire ∨ (∃ op, i = .stepHost op) ∨
      i = .stepTransportFault ∨ ∃ load, i = .stepSessionReset load := by
  cases i
  case hostSendGeneric code => exact .inr (.inr (.inl ⟨.sendGeneric code, rfl⟩))
  case hostSendPresetVolume v => exact .inr (.inr (.inl ⟨.sendPresetVolume v, rfl⟩))
  case hostSendTotalsRequest => exact .inr (.inr (.inl ⟨.sendTotalsRequest, rfl⟩))
  case hostSendMinPoll => exact .inr (.inr (.inl ⟨.sendMinPoll, rfl⟩))
  case hostSendMinAck => exact .inr (.inr (.inl ⟨.sendMinAck, rfl⟩))
  case hostSetCrcOrder o => exact .inr (.inr (.inl ⟨.setCrcOrder o, rfl⟩))
  case hostSetAutoAck b => exact .inr (.inr (.inl ⟨.setAutoAck b, rfl⟩))
  case hostSetAutoPoll b n => exact .inr (.inr (.inl ⟨.setAutoPoll b n, rfl⟩))
  case hostTransportOpen a => exact .inr (.inr (.inl ⟨.transportOpen a, rfl⟩))
  case hostTransportClose => exact .inr (.inr (.inl ⟨.transportClose, rfl⟩))
  case hostIntentHint st => exact .inr (.inr (.inl ⟨.intentHint st, rfl⟩))
  case txPresetVolume | txGeneric | txTotalsRequest | txMinPoll | txMinAck => exact .inr (.inl fun _ => ⟨_, rfl⟩)
  case stepRxByte | stepDispatch | stepTimerFire | stepHost | stepTransportFault | stepSessionReset => simp
  all_goals exact .inl rfl

/-- The meaning of an operation's row (R350). -/
theorem exec_hostRow (op : HostOp) (s : State) : exec (hostRow op) s = runHostOp op s := by
  cases op <;> rfl

/-! ## What continues a state -/

theorem continues_sendPreset (volumeCl : Int) (s : State) : Continues s (sendPreset volumeCl s) := by
  have hsent := continues_send (encodePreset s.deviceAddr volumeCl s.crcOrder) s
  unfold sendPreset
  dsimp only
  split
  · exact hsent.trans (by constructor <;> simp)
  · exact hsent

theorem continues_stepTimerFire {s t : State} (ht : exec .stepTimerFire s = .next t) : Continues s t := by
  simp only [exec, execStepTimerFire] at ht
  split at ht <;> cases ht
  · exact continues_send _ s
  · exact .refl s

/-- An operation continues the state or writes its own registers (R351 to R361, R268). -/
theorem runHostOp_next_cases {op : HostOp} {s t : State} (ht : runHostOp op s = .next t) :
    Continues s t ∨ (∃ o, op = .setCrcOrder o ∧ t = { s with crcOrder := o }) ∨ (∃ b, op = .setAutoAck b ∧ t = { s with autoAck := b }) ∨
      (∃ b n, op = .setAutoPoll b n ∧ t = { s with autoPoll := b, pollIntervalMs := n }) ∨
      (∃ a, op = .transportOpen a ∧ t = { s with transportOpen := true, txFaulted := false, deviceAddr := a }) ∨
      op = .transportClose ∧ t = { s with transportOpen := false } := by
  cases op with
  | sendGeneric code =>
    cases ht
    exact .inl (continues_issueGeneric code s)
  | sendPresetVolume v =>
    simp only [runHostOp, execHostSendPresetVolume] at ht
    split at ht
    · cases ht
      exact .inl (continues_emit _ s)
    · split at ht <;> cases ht
      · exact .inl (continues_emit _ s)
      · exact .inl (continues_sendPreset v s)
  | sendTotalsRequest =>
    simp only [runHostOp, execHostSendTotalsRequest] at ht
    split at ht <;> cases ht
    · exact .inl (continues_emit _ s)
    · exact .inl (continues_send _ s)
  | sendMinPoll | sendMinAck =>
    cases ht
    exact .inl (continues_send _ s)
  | intentHint state =>
    simp only [runHostOp, execHostIntentHint] at ht
    split at ht <;> cases ht
    · exact .inl (by constructor <;> simp)
    · exact .inl (.refl s)
  | setCrcOrder | setAutoAck | setAutoPoll | transportOpen | transportClose =>
    cases ht
    simp

/-! ## The writers -/

/-- What O58 says of one instruction: each register and buffer is as before, or the instruction is one of its writers. -/
def OnlyWritersWrote (i : Instr) (s t : State) : Prop :=
  t.cfg = s.cfg ∧ t.nozzle = s.nozzle ∧ t.script = s.script ∧
    (t.crcOrder = s.crcOrder ∨ ∃ o, i = .hostSetCrcOrder o ∨ i = .stepHost (.setCrcOrder o)) ∧
    (t.autoAck = s.autoAck ∨ ∃ b, i = .hostSetAutoAck b ∨ i = .stepHost (.setAutoAck b)) ∧
    (t.autoPoll = s.autoPoll ∧ t.pollIntervalMs = s.pollIntervalMs ∨
      ∃ b n, i = .hostSetAutoPoll b n ∨ i = .stepHost (.setAutoPoll b n)) ∧
    (t.deviceAddr = s.deviceAddr ∨ ∃ a, i = .hostTransportOpen a ∨ i = .stepHost (.transportOpen a)) ∧
    (t.transportOpen = s.transportOpen ∨ (∃ a, i = .hostTransportOpen a ∨ i = .stepHost (.transportOpen a)) ∨
      i = .hostTransportClose ∨ i = .stepHost .transportClose) ∧
    (t.txFaulted = s.txFaulted ∨ (∃ a, i = .hostTransportOpen a ∨ i = .stepHost (.transportOpen a)) ∨ i = .stepTransportFault) ∧
    (t.rxBuf = s.rxBuf ∨ ∃ b, i = .stepRxByte b) ∧
    (t.frameQ = s.frameQ ∨ (∃ b, i = .stepRxByte b) ∨ ∃ now, i = .stepDispatch now)

/-- Nothing is written by what continues the state. -/
theorem onlyWritersWrote_of_continues (i : Instr) {s t : State} (h : Continues s t) : OnlyWritersWrote i s t :=
  ⟨h.cfg, h.nozzle, h.script, .inl h.crcOrder, .inl h.autoAck, .inl ⟨h.autoPoll, h.pollIntervalMs⟩, .inl h.deviceAddr,
    .inl h.transportOpen, .inl h.txFaulted, .inl h.rxBuf, .inl h.frameQ⟩

/-- An operation writes its own registers, as a row and as a `Host` step. -/
theorem onlyWritersWrote_hostOp {op : HostOp} {i : Instr} {s t : State} (hi : i = hostRow op ∨ i = .stepHost op)
    (ht : runHostOp op s = .next t) : OnlyWritersWrote i s t := by
  rcases runHostOp_next_cases ht with h | ⟨o, rfl, rfl⟩ | ⟨b, rfl, rfl⟩ | ⟨b, n, rfl, rfl⟩ | ⟨a, rfl, rfl⟩ | ⟨rfl, rfl⟩
  · exact onlyWritersWrote_of_continues i h
  all_goals rcases hi with rfl | rfl <;> simp [OnlyWritersWrote, hostRow]

/-- A byte writes the two buffers alone (R164). -/
theorem onlyWritersWrote_rxByte {b : Byte} {s t : State} (ht : receiveByte b s = .next t) : OnlyWritersWrote (.stepRxByte b) s t := by
  rcases receiveByte_next_cases ht with ⟨-, rfl⟩ | ⟨shape, -, rfl⟩ <;> simp [OnlyWritersWrote]

/-- A `Dispatch` takes a frame from the queue and then continues the state (R62, R210). -/
theorem onlyWritersWrote_dispatch {now : Nat} {s t : State} (ht : exec (.stepDispatch now) s = .next t) :
    OnlyWritersWrote (.stepDispatch now) s t := by
  cases hq : s.frameQ with
  | nil =>
    cases (execStepDispatch_nil now hq).symm.trans ht
    exact onlyWritersWrote_of_continues _ (.refl s)
  | cons q rest =>
    have h : Continues { s with frameQ := rest } t := (keptByDecoding_continues _).dispatch hq (.refl _) ht
    obtain ⟨hcfg, hnozzle, hscript, hcrc, hack, hpoll, haddr, hopen, hfault, hbuf, -⟩ := onlyWritersWrote_of_continues (.stepDispatch now) h
    exact ⟨hcfg, hnozzle, hscript, hcrc, hack, hpoll, haddr, hopen, hfault, hbuf, .inr (.inr ⟨now, rfl⟩)⟩

/-- Settles O58, by the class of the instruction. -/
theorem controlRegistersAndBuffersHaveTheirWriters : Obligations.ControlRegistersAndBuffersHaveTheirWriters := by
  intro i s t ht hreset
  change OnlyWritersWrote i s t
  rcases instr_classes i with hin | hout | ⟨op, rfl⟩ | ⟨b, rfl⟩ | ⟨now, rfl⟩ | rfl | ⟨op, rfl⟩ | rfl | ⟨load, rfl⟩
  · exact onlyWritersWrote_of_continues i ((keptByDecoding_continues s).exec hin (.refl s) ht)
  · obtain ⟨bytes, hsend⟩ := hout s
    cases hsend.symm.trans ht
    exact onlyWritersWrote_of_continues i (continues_send bytes s)
  · exact onlyWritersWrote_hostOp (.inl rfl) ((exec_hostRow op s).symm.trans ht)
  · exact onlyWritersWrote_rxByte ht
  · exact onlyWritersWrote_dispatch ht
  · exact onlyWritersWrote_of_continues _ (continues_stepTimerFire ht)
  · exact onlyWritersWrote_hostOp (.inr rfl) ht
  · cases ht
    simp [OnlyWritersWrote]
  · exact absurd rfl (hreset load)

end Sys2Proof.Proofs.Writers

/-! # The transport's streams and buffers

Memory as 20_memory.md gives it: the two streams only grow (R63, R64, R420), the buffers' capacities (R61, R62) and the other reading of R162, and the bytes of the
line in pieces of any size against the source's scan of the whole buffer (R72, R166). -/

namespace Sys2Proof.Proofs.Memory

open Sys2Proof Sys2Proof.Machine Sys2Proof.Laws Sys2Proof.Proofs.Stops Sys2Proof.Proofs.Invariant Sys2Proof.Proofs.Writers

/-! ## The streams -/

/-- Both streams of `t` extend those of `s`. -/
def StreamsGrow (s t : State) : Prop := s.tx <+: t.tx ∧ s.evt <+: t.evt

theorem streamsGrow_of_continues {s t : State} (h : Continues s t) : StreamsGrow s t := ⟨h.tx, h.evt⟩

theorem streamsGrow_of_same {s t : State} (htx : t.tx = s.tx := by rfl) (hevt : t.evt = s.evt := by rfl) : StreamsGrow s t :=
  ⟨by simp [htx], by simp [hevt]⟩

theorem streamsGrow_runHostOp {op : HostOp} {s t : State} (ht : runHostOp op s = .next t) : StreamsGrow s t := by
  rcases runHostOp_next_cases ht with h | ⟨_, -, rfl⟩ | ⟨_, -, rfl⟩ | ⟨_, _, -, rfl⟩ | ⟨_, -, rfl⟩ | ⟨-, rfl⟩
  · exact streamsGrow_of_continues h
  all_goals exact streamsGrow_of_same

/-- A byte writes the two buffers alone (R164). -/
theorem streamsGrow_receiveByte {b : Byte} {s t : State} (ht : receiveByte b s = .next t) : StreamsGrow s t := by
  rcases receiveByte_next_cases ht with ⟨-, rfl⟩ | ⟨_, -, rfl⟩ <;> exact streamsGrow_of_same

/-- A `Dispatch` that completes continues the state without its oldest frame (R62, R210). -/
theorem continues_stepDispatch {now : Nat} {q : Frame} {rest : List Frame} {s t : State} (hq : s.frameQ = q :: rest)
    (ht : exec (.stepDispatch now) s = .next t) : Continues { s with frameQ := rest } t :=
  (keptByDecoding_continues _).dispatch hq (.refl _) ht

theorem streamsGrow_stepDispatch {now : Nat} {s t : State} (ht : exec (.stepDispatch now) s = .next t) : StreamsGrow s t := by
  cases hq : s.frameQ with
  | nil =>
    cases (execStepDispatch_nil now hq).symm.trans ht
    exact streamsGrow_of_same
  | cons q rest =>
    have h := continues_stepDispatch hq ht
    exact ⟨h.tx, h.evt⟩

/-- Settles O57, by the class of the instruction. -/
theorem streamsOnlyGrow : Obligations.StreamsOnlyGrow := by
  intro i s t ht
  rcases instr_classes i with hin | hout | ⟨op, rfl⟩ | ⟨b, rfl⟩ | ⟨now, rfl⟩ | rfl | ⟨op, rfl⟩ | rfl | ⟨load, rfl⟩
  · exact .inr (streamsGrow_of_continues ((keptByDecoding_continues s).exec hin (.refl s) ht))
  · obtain ⟨bytes, hsend⟩ := hout s
    cases hsend.symm.trans ht
    exact .inr (streamsGrow_of_continues (continues_send bytes s))
  · exact .inr (streamsGrow_runHostOp ((exec_hostRow op s).symm.trans ht))
  · exact .inr (streamsGrow_receiveByte ht)
  · exact .inr (streamsGrow_stepDispatch ht)
  · exact .inr (streamsGrow_of_continues (continues_stepTimerFire ht))
  · exact .inr (streamsGrow_runHostOp ht)
  · cases ht
    exact .inr ⟨by simp, by simp⟩
  · cases ht
    exact .inl ⟨⟨load, rfl⟩, rfl, rfl⟩

/-! ## Full buffers and the other reading of R162 -/

/-- Settles O10: each clause meets the condition of its fault or refusal. -/
theorem fullBuffersFaultAndLooseEtxIsRefused : Obligations.FullBuffersFaultAndLooseEtxIsRefused := by
  refine ⟨fun b s c hcap hfull => ?_, fun s c hnocap hadj hcap hfull hframe => ?_, fun s hnocap hadj hlen hetx => ?_⟩
  · exact exec_stepRxByte_fault_iff.2 (.inl ⟨rfl, c, hcap, hfull⟩)
  · have hcut : s.cfg.etxAdjacent = true ∧ 6 ≤ s.rxBuf.length ∧ s.rxBuf.getLast? = some 0x03#8 ∨
        s.rxBuf.length = 2 ∧ s.rxBuf.head? = some 0x50#8 :=
      hframe.imp (fun hlong => ⟨hadj, hlong⟩) fun ⟨hlen, hlead⟩ => ⟨hlen, List.head?_eq_getElem?.trans hlead⟩
    exact exec_stepRxByte_fault_iff.2 (.inr ⟨rfl, rfl, by simp [hnocap], hcut, c, hcap, hfull⟩)
  · exact exec_stepRxByte_refused_iff.2 ⟨rfl, hadj, rfl, by simp [hnocap], hlen, hetx⟩

/-! ## The source's scan of a buffer (R160, R166) -/

/-- The frame that ends at position `t` of a buffer, as `firstFrame` looks for it: its shape and its length. -/
def frameAt (buf : List Byte) (t : Nat) : Option (Shape × Nat) :=
  if buf[t]? == some Config.trailer then
    if hasLongShape (buf.take (t + 1)) then some (.long, t + 1)
    else if hasShortShape (buf.take (t + 1)) then some (.short, t + 1)
    else none
  else none

theorem firstFrame_eq_findSome? (buf : List Byte) : firstFrame buf = (List.range buf.length).findSome? (frameAt buf) := rfl

theorem frameAt_eq_none_iff {buf : List Byte} {t : Nat} : frameAt buf t = none ↔ completeAt buf t = false := by
  unfold frameAt completeAt
  split
  · split
    · simp_all
    · split <;> simp_all
  · simp_all

theorem length_of_frameAt {buf : List Byte} {t k : Nat} {shape : Shape} (h : frameAt buf t = some (shape, k)) : k = t + 1 := by
  unfold frameAt at h
  split at h
  · split at h
    · cases h; rfl
    · split at h <;> cases h
      rfl
  · cases h

/-- Bytes after the candidate do not matter. -/
theorem frameAt_append {buf : List Byte} {t : Nat} (ht : t < buf.length) (more : List Byte) :
    frameAt (buf ++ more) t = frameAt buf t := by
  simp only [frameAt, List.getElem?_append_left ht, List.take_append_of_le_length (Nat.succ_le_of_lt ht)]

/-- A buffer and one more byte end in a frame exactly when that byte is a trailer and completes a shape, the long one first. -/
theorem frameAt_last (buf : List Byte) (b : Byte) :
    frameAt (buf ++ [b]) buf.length =
      if b = Config.trailer then
        if hasLongShape (buf ++ [b]) then some (.long, buf.length + 1)
        else if hasShortShape (buf ++ [b]) then some (.short, buf.length + 1)
        else none
      else none := by
  simp [frameAt, List.take_of_length_le]

theorem firstFrame_eq_none_iff {buf : List Byte} : firstFrame buf = none ↔ noFrameIn buf = true := by
  simp [firstFrame_eq_findSome?, noFrameIn, frameAt_eq_none_iff]

/-- A frame takes at least one byte of a buffer that is not empty. -/
theorem pos_of_firstFrame {buf : List Byte} {shape : Shape} {k : Nat} (h : firstFrame buf = some (shape, k)) :
    0 < k ∧ 0 < buf.length := by
  obtain ⟨t, ht, hframe⟩ := List.exists_of_findSome?_eq_some h
  have hk := length_of_frameAt hframe
  have hlt := List.mem_range.1 ht
  omega

/-- After a buffer without a complete frame, a byte that completes one gives the first frame, whatever follows it. -/
theorem firstFrame_append_of_frameAt {buf : List Byte} {b : Byte} {x : Shape × Nat} (hbuf : noFrameIn buf = true)
    (hb : frameAt (buf ++ [b]) buf.length = some x) (more : List Byte) : firstFrame (buf ++ b :: more) = some x := by
  have hbefore : (List.range buf.length).findSome? (frameAt (buf ++ b :: more)) = none := by
    rw [← firstFrame_eq_none_iff, firstFrame_eq_findSome?, List.findSome?_eq_none_iff] at hbuf
    exact List.findSome?_eq_none_iff.2 fun t ht => (frameAt_append (List.mem_range.1 ht) _).trans (hbuf t ht)
  have hhere : frameAt (buf ++ b :: more) buf.length = some x := by
    rw [List.append_cons, frameAt_append (by simp), hb]
  have hlen : (buf ++ b :: more).length = buf.length + (more.length + 1) := by simp
  rw [firstFrame_eq_findSome?, hlen, List.range_add, List.findSome?_append, hbefore, List.range_succ_eq_map]
  simp [hhere]

theorem scanUpTo_of_noFrameIn (n : Nat) {buf : List Byte} (h : noFrameIn buf = true) : scanUpTo n buf = ([], buf) := by
  cases n with
  | zero => rfl
  | succ n => simp [scanUpTo, firstFrame_eq_none_iff.2 h]

/-- The bound on the number of frames does not matter from the buffer's length on. -/
theorem scanUpTo_eq_scanBuffer {n : Nat} {buf : List Byte} (hn : buf.length ≤ n) : scanUpTo n buf = scanBuffer buf := by
  suffices h : ∀ m n : Nat, ∀ buf : List Byte, buf.length ≤ m → buf.length ≤ n → scanUpTo m buf = scanUpTo n buf from
    h n buf.length buf hn le_rfl
  intro m
  induction m with
  | zero =>
    intro n buf hm _
    obtain rfl := List.length_eq_zero_iff.1 (Nat.le_zero.1 hm)
    exact (scanUpTo_of_noFrameIn n rfl).symm
  | succ m ih =>
    intro n buf hm hn
    cases hfirst : firstFrame buf with
    | none => simp only [scanUpTo_of_noFrameIn _ (firstFrame_eq_none_iff.1 hfirst)]
    | some found =>
      obtain ⟨shape, k⟩ := found
      obtain ⟨hk, hlen⟩ := pos_of_firstFrame hfirst
      obtain ⟨n, rfl⟩ := Nat.exists_eq_add_of_lt (Nat.lt_of_lt_of_le hlen hn)
      have hdrop : scanUpTo m (buf.drop k) = scanUpTo (0 + n) (buf.drop k) :=
        ih _ _ (by rw [List.length_drop]; omega) (by rw [List.length_drop]; omega)
      simp [scanUpTo, hfirst, hdrop]

theorem scanBuffer_of_noFrameIn {buf : List Byte} (h : noFrameIn buf = true) : scanBuffer buf = ([], buf) :=
  scanUpTo_of_noFrameIn _ h

/-- The scan emits the first frame and goes on with the remainder (R160). -/
theorem scanBuffer_of_firstFrame {buf : List Byte} {shape : Shape} {k : Nat} (h : firstFrame buf = some (shape, k)) :
    scanBuffer buf = (⟨shape, buf.take k⟩ :: (scanBuffer (buf.drop k)).1, (scanBuffer (buf.drop k)).2) := by
  obtain ⟨hk, hlen⟩ := pos_of_firstFrame h
  have hdrop : (buf.drop k).length ≤ buf.length - 1 := by rw [List.length_drop]; omega
  rw [← scanUpTo_eq_scanBuffer hdrop, ← scanUpTo_eq_scanBuffer (show buf.length ≤ buf.length - 1 + 1 by omega), scanUpTo, h]

/-- No complete frame is left over. -/
theorem noFrameIn_scanBuffer (buf : List Byte) : noFrameIn (scanBuffer buf).2 = true := by
  induction hn : buf.length using Nat.strong_induction_on generalizing buf with
  | _ n ih =>
    cases hfirst : firstFrame buf with
    | none =>
      have hnone := firstFrame_eq_none_iff.1 hfirst
      rwa [scanBuffer_of_noFrameIn hnone]
    | some found =>
      obtain ⟨shape, k⟩ := found
      obtain ⟨hk, hlen⟩ := pos_of_firstFrame hfirst
      rw [scanBuffer_of_firstFrame hfirst]
      exact ih _ (by rw [List.length_drop]; omega) _ rfl

/-- The scan of a buffer without a complete frame and of a byte that completes one. -/
theorem scanBuffer_append_of_frameAt {buf : List Byte} {b : Byte} {shape : Shape} (hbuf : noFrameIn buf = true)
    (hb : frameAt (buf ++ [b]) buf.length = some (shape, buf.length + 1)) (more : List Byte) :
    scanBuffer (buf ++ b :: more) = (⟨shape, buf ++ [b]⟩ :: (scanBuffer more).1, (scanBuffer more).2) := by
  have htake : (buf ++ b :: more).take (buf.length + 1) = buf ++ [b] := by simp [List.take_append]
  have hdrop : (buf ++ b :: more).drop (buf.length + 1) = more := by simp [List.drop_append]
  rw [scanBuffer_of_firstFrame (firstFrame_append_of_frameAt hbuf hb more), htake, hdrop]

/-! ## Bytes fed one by one against the scan (R166) -/

/-- The state after a scan with result `r`: its frames queued, its remainder in the receive buffer. -/
def afterScan (r : List Frame × List Byte) (s : State) : State := { s with frameQ := s.frameQ ++ r.1, rxBuf := r.2 }

theorem afterScan_afterScan (r r' : List Frame × List Byte) (s : State) :
    afterScan r' (afterScan r s) = afterScan (r.1 ++ r'.1, r'.2) s := by
  simp [afterScan]

theorem unbounded_afterScan {s : State} (h : unbounded s) (r : List Frame × List Byte) : unbounded (afterScan r s) := h

/-- Without finite capacities and under the specified reading of R162, a byte completes no frame and is buffered, or it completes one, which is queued. -/
theorem receiveByte_unbounded_cases (b : Byte) {s : State} (hs : unbounded s) :
    ((b = Config.trailer → hasLongShape (s.rxBuf ++ [b]) = false ∧ hasShortShape (s.rxBuf ++ [b]) = false) ∧
        receiveByte b s = .next (afterScan ([], s.rxBuf ++ [b]) s)) ∨
      ∃ shape, frameAt (s.rxBuf ++ [b]) s.rxBuf.length = some (shape, s.rxBuf.length + 1) ∧
        receiveByte b s = .next (afterScan ([⟨shape, s.rxBuf ++ [b]⟩], []) s) := by
  obtain ⟨hrx, hqueue, hadj⟩ := hs
  rcases receiveByte_cases b s with
    ⟨hfull, -⟩ | hkept | ⟨htrailer, shape, hshape, hcut⟩ | ⟨-, -, hfull, -⟩ | ⟨-, -, hother, -⟩
  · simp [hrx, atCapacity] at hfull
  · rcases receiveByte_next_cases hkept with ⟨hnone, -⟩ | ⟨shape, -, hcut⟩
    · exact .inl ⟨hnone, by simp [hkept, afterScan]⟩
    · have : s.rxBuf ++ [b] = [] := congrArg State.rxBuf hcut
      simp at this
  · refine .inr ⟨shape, ?_, hcut⟩
    rw [frameAt_last, if_pos htrailer]
    rcases hshape with ⟨rfl, hlong⟩ | ⟨rfl, hlong, hshort⟩
    · rw [if_pos hlong]
    · simp [hlong, hshort]
  · simp [hqueue, atCapacity] at hfull
  · simp [hadj] at hother

theorem feed_cons_of_next {b : Byte} {s t : State} (bs : List Byte) (h : receiveByte b s = .next t) : feed (b :: bs) s = feed bs t := by
  simp [feed, exec, execStepRxByte, h]

/-- A run of `RxByte` steps from a buffer without a complete frame is the scan of the whole buffer (R166), by induction on the bytes: each one is buffered or
completes the first frame of what is scanned. -/
theorem feed_eq_afterScan (bytes : List Byte) {s : State} (hs : unbounded s) (hbuf : noFrameIn s.rxBuf = true) :
    feed bytes s = .next (afterScan (scanBuffer (s.rxBuf ++ bytes)) s) := by
  induction bytes generalizing s with
  | nil => simp [feed, scanBuffer_of_noFrameIn hbuf, afterScan]
  | cons b bs ih =>
    rcases receiveByte_unbounded_cases b hs with ⟨hnone, hkept⟩ | ⟨shape, hframe, hcut⟩
    · have hnext : noFrameIn (afterScan ([], s.rxBuf ++ [b]) s).rxBuf = true := noFrameIn_append hbuf hnone
      rw [feed_cons_of_next bs hkept, ih (unbounded_afterScan hs _) hnext, afterScan_afterScan]
      simp [afterScan]
    · rw [feed_cons_of_next bs hcut, ih (unbounded_afterScan hs _) rfl, afterScan_afterScan, scanBuffer_append_of_frameAt hbuf hframe]
      simp [afterScan]

/-! ## Chunks (R72) -/

/-- A chunk and then the rest are fed as one piece, stops included. -/
theorem feedChunks_cons {chunk : List Byte} {rest : List (List Byte)}
    (hrest : ∀ s, feedChunks rest s = feed rest.flatten s) (s : State) :
    feedChunks (chunk :: rest) s = feed (chunk ++ rest.flatten) s := by
  induction chunk generalizing s with
  | nil => exact hrest s
  | cons b bs ih =>
    cases hb : exec (.stepRxByte b) s with
    | next t =>
      rw [List.cons_append, feed_cons_of_next _ hb, ← ih t]
      simp [feedChunks, feed, hb]
    | fault r => simp [feedChunks, feed, hb]
    | refused r => simp [feedChunks, feed, hb]

theorem feedChunks_eq_feed (chunks : List (List Byte)) (s : State) : feedChunks chunks s = feed chunks.flatten s := by
  induction chunks generalizing s with
  | nil => rfl
  | cons chunk rest ih => exact feedChunks_cons ih s

theorem feedChunks_cons_of_next {chunk : List Byte} {s t : State} (rest : List (List Byte)) (h : feed chunk s = .next t) :
    feedChunks (chunk :: rest) s = feedChunks rest t := by
  simp [feedChunks, h]

/-- The source's scan after each chunk, by induction on the chunks: a scan leaves no complete frame behind. -/
theorem feedChunks_eq_afterScanChunks (chunks : List (List Byte)) {s : State} (hs : unbounded s) (hbuf : noFrameIn s.rxBuf = true) :
    feedChunks chunks s = .next (afterScan (scanChunks s.rxBuf chunks) s) := by
  induction chunks generalizing s with
  | nil => simp [feedChunks, scanChunks, afterScan]
  | cons chunk rest ih =>
    rw [feedChunks_cons_of_next rest (feed_eq_afterScan chunk hs hbuf), ih (unbounded_afterScan hs _) (noFrameIn_scanBuffer _),
      afterScan_afterScan]
    rfl

/-- Settles O12: the chunks are fed as one piece, which is scanned as a whole; and chunk by chunk each one is scanned with what the last scan left. -/
theorem chunkBoundariesDoNotMatter : Obligations.ChunkBoundariesDoNotMatter :=
  ⟨fun chunks s hs hbuf =>
    ⟨(feedChunks_eq_feed chunks s).trans (feed_eq_afterScan chunks.flatten hs hbuf), feedChunks_eq_afterScanChunks chunks hs hbuf⟩,
    feedChunks_eq_feed⟩

end Sys2Proof.Proofs.Memory

/-! # The dispatch of the oldest frame

What the handler of a frame reports holds no frame trace, so the trace that `Dispatch` makes first is the only one (R210, R404, R392). -/

namespace Sys2Proof.Proofs.Reports

open Sys2Proof Sys2Proof.Machine Sys2Proof.Laws Sys2Proof.Proofs.Stops Sys2Proof.Proofs.Invariant Sys2Proof.Proofs.Memory

/-! ## Reports other than a frame trace -/

/-- From `s` to `t` events were appended, none of them a frame trace. -/
def TracesNoFrame (s t : State) : Prop :=
  ∃ more : List Event, t.evt = s.evt ++ more ∧ ∀ e ∈ more, ∀ b k, e ≠ .frameTrace b k

theorem tracesNoFrame_of_evt {s t : State} (h : t.evt = s.evt := by rfl) : TracesNoFrame s t := ⟨[], by simp [h], nofun⟩

/-- One report, whatever else changed. -/
theorem tracesNoFrame_of_report {s t : State} (e : Event) (h : t.evt = s.evt ++ [e] := by rfl)
    (he : ∀ b k, e ≠ .frameTrace b k := by exact nofun) : TracesNoFrame s t :=
  ⟨[e], h, fun _ hmem => List.mem_singleton.1 hmem ▸ he⟩

theorem TracesNoFrame.trans {s t u : State} (h : TracesNoFrame s t) (k : TracesNoFrame t u) : TracesNoFrame s u := by
  obtain ⟨more, hevt, hmore⟩ := h
  obtain ⟨more', hevt', hmore'⟩ := k
  exact ⟨more ++ more', by simp [hevt, hevt'], fun e he => (List.mem_append.1 he).elim (hmore e) (hmore' e)⟩

theorem tracesNoFrame_foldl {α : Type} {f : State → α → State} (hf : ∀ s a, TracesNoFrame s (f s a)) (l : List α) (s : State) :
    TracesNoFrame s (l.foldl f s) := by
  induction l generalizing s with
  | nil => exact tracesNoFrame_of_evt
  | cons a l ih => exact (hf s a).trans (ih (f s a))

/-! ## The operations of the handlers -/

theorem tracesNoFrame_warn (w : Warning) (s : State) : TracesNoFrame s (warn w s) := tracesNoFrame_of_report (.decodeWarning w)

theorem tracesNoFrame_warnIf (w : Option Warning) (s : State) : TracesNoFrame s (warnIf w s) := by
  cases w with
  | none => exact tracesNoFrame_of_evt
  | some w => exact tracesNoFrame_warn w s

theorem tracesNoFrame_send (bytes : List Byte) (s : State) : TracesNoFrame s (send bytes s).2 := by
  rcases send_cases bytes s with ⟨-, h⟩ | ⟨-, h⟩ <;> rw [h]
  · exact tracesNoFrame_of_evt
  · exact tracesNoFrame_of_report .sendFailed

theorem tracesNoFrame_issueGeneric (code : Byte) (s : State) : TracesNoFrame s (issueGeneric code s).2 := by
  rcases issueGeneric_cases code s with ⟨-, h⟩ | ⟨-, -, h⟩ | ⟨-, -, -, h⟩ | ⟨-, -, -, h⟩ <;> rw [h]
  · exact tracesNoFrame_of_report (.commandRefused .noHandshake)
  · exact tracesNoFrame_of_report (.commandRefused .nozzleStowed)
  · exact tracesNoFrame_of_evt
  · exact tracesNoFrame_of_report .sendFailed

theorem tracesNoFrame_busy (s : State) : TracesNoFrame s (busy s) := by
  rcases busy_cases s with ⟨-, h⟩ | ⟨-, -, h⟩ | ⟨-, -, h⟩ <;> rw [h]
  · exact tracesNoFrame_of_evt
  · exact tracesNoFrame_issueGeneric _ s
  · exact tracesNoFrame_of_evt

theorem tracesNoFrame_closeWindow (s : State) : TracesNoFrame s (closeWindow s) := by
  have hsettle : TracesNoFrame s (settleSale s) := by
    rcases settleSale_cases s with ⟨-, -, h⟩ | ⟨-, h⟩ | ⟨-, -, h⟩ <;> rw [h]
    · exact tracesNoFrame_of_report (.countersSave _ _)
    · exact tracesNoFrame_warn .noSampleInSale s
    · exact tracesNoFrame_of_evt
  exact hsettle.trans tracesNoFrame_of_evt

theorem tracesNoFrame_onStatus (prev new : PumpState) (s : State) : TracesNoFrame s (onStatus prev new s) := by
  rcases onStatus_cases prev new s with ⟨-, -, h⟩ | ⟨-, -, h⟩ | ⟨-, -, h⟩ | ⟨-, -, h⟩ | ⟨-, h⟩ <;> rw [h]
  · exact tracesNoFrame_of_report .saleOpened
  · exact tracesNoFrame_of_evt
  · split
    · exact (tracesNoFrame_closeWindow s).trans tracesNoFrame_of_evt
    · exact tracesNoFrame_closeWindow s
  · split <;> exact tracesNoFrame_of_evt
  · exact tracesNoFrame_of_evt

theorem tracesNoFrame_setState (new : PumpState) (s : State) : TracesNoFrame s (setState new s) := by
  have hreport : TracesNoFrame s (emit (.statusChanged new) { s with pumpState := new, hintState := none }) :=
    tracesNoFrame_of_report (.statusChanged new)
  cases htracker : s.cfg.trackerPresent with
  | false => rwa [setState_noTracker htracker]
  | true =>
    rw [setState_tracker htracker]
    exact hreport.trans (tracesNoFrame_onStatus _ _ _)

theorem tracesNoFrame_handshakeTouch (now : Nat) (s : State) : TracesNoFrame s (handshakeTouch now s) := by
  cases hok : s.hs.ok with
  | false =>
    rw [handshakeTouch_first now hok]
    exact tracesNoFrame_of_report .handshakeAcquired
  | true =>
    rw [handshakeTouch_ok now hok]
    exact tracesNoFrame_of_evt

theorem tracesNoFrame_statusEvent (code : Byte) (table : StatusTable) (s : State) : TracesNoFrame s (statusEvent code table s) := by
  cases hmap : mapStatus s.cfg code table with
  | none =>
    rw [statusEvent_unmapped hmap]
    exact tracesNoFrame_warn _ s
  | some new =>
    rw [statusEvent_mapped hmap]
    exact tracesNoFrame_setState new s

theorem tracesNoFrame_statusItem (code : Byte) (table : StatusTable) (now : Nat) (s : State) :
    TracesNoFrame s (statusItem code table now s) :=
  (tracesNoFrame_handshakeTouch now s).trans (tracesNoFrame_statusEvent code table _)

theorem tracesNoFrame_autoStop (volumeCl : Nat) (s : State) : TracesNoFrame s (autoStop volumeCl s) := by
  rcases autoStop_cases volumeCl s with ⟨-, h⟩ | ⟨-, -, h⟩ | ⟨-, -, h⟩ <;> rw [h]
  · exact tracesNoFrame_of_evt
  · exact tracesNoFrame_issueGeneric _ s
  · exact tracesNoFrame_of_evt

theorem tracesNoFrame_sample (volumeCl amountC : Nat) (s : State) : TracesNoFrame s (sample volumeCl amountC s) := by
  have hremember : TracesNoFrame s (rememberSample volumeCl amountC s) := by
    unfold rememberSample
    split <;> exact tracesNoFrame_of_evt
  exact hremember.trans (tracesNoFrame_autoStop volumeCl _)

/-! ## Items, records and payloads -/

theorem tracesNoFrame_applyItem (now : Nat) (item : Item) (s : State) : TracesNoFrame s (applyItem now item s) := by
  cases item with
  | status code table => exact tracesNoFrame_statusItem code table now s
  | volume v a =>
    have hreport : TracesNoFrame s (emit (.volumeSample v a) s) := tracesNoFrame_of_report (.volumeSample v a)
    unfold applyItem applyVolume
    dsimp only
    split
    · exact hreport.trans (tracesNoFrame_sample v a _)
    · exact hreport
  | nozzlePrice p n out => exact tracesNoFrame_of_report (.nozzleChanged out)
  | totals n t0 t1 t2 => exact tracesNoFrame_of_report (.totalsReport n t0 t1 t2)

theorem tracesNoFrame_applyItems (now : Nat) (items : List Item) (s : State) : TracesNoFrame s (applyItems now items s) :=
  tracesNoFrame_foldl (fun u item => tracesNoFrame_applyItem now item u) items s

/-- A record that has its length is an item; every other record is a warning (R231 to R235). -/
theorem tracesNoFrame_applyRecord (totals : Bool) (now : Nat) (r : SubRecord) (s : State) :
    TracesNoFrame s (applyRecord totals now r s) := by
  have hsized (n : Nat) (item : Item) (w : Warning) :
      TracesNoFrame s (if r.data.length = n then applyItem now item s else warn w s) := by
    split
    · exact tracesNoFrame_applyItem now item s
    · exact tracesNoFrame_warn w s
  have hstatus : TracesNoFrame s (recordStatus now r.data s) := by
    unfold recordStatus
    split
    · exact tracesNoFrame_applyItem now _ s
    · exact tracesNoFrame_warn _ s
  unfold applyRecord
  split
  · exact hstatus
  · split
    · exact hsized 8 _ _
    · split
      · split
        · exact hsized 16 _ _
        · exact hsized 4 _ _
      · exact tracesNoFrame_warn _ s

theorem tracesNoFrame_walk (totals : Bool) (now : Nat) (payload : List Byte) (s : State) : TracesNoFrame s (walk totals now payload s) :=
  (tracesNoFrame_foldl (fun u r => tracesNoFrame_applyRecord totals now r u) _ s).trans (tracesNoFrame_warnIf _ _)

theorem tracesNoFrame_statusReply (payload : List Byte) (table : StatusTable) (now : Nat) (s : State) :
    TracesNoFrame s (statusReply payload table now s) := by
  rcases statusReply_cases payload table now s with ⟨code, -, h⟩ | ⟨-, h⟩ <;> rw [h]
  · exact tracesNoFrame_statusItem code table now s
  · exact tracesNoFrame_warn _ s

theorem tracesNoFrame_altFrame {command : Byte} {payload : List Byte} {now : Nat} {s t : State}
    (ht : altFrame command payload now s = .next t) : TracesNoFrame s t := by
  rcases altFrame_cases command payload now s with ⟨-, h⟩ | ⟨-, ⟨items, -, h⟩ | ⟨-, h⟩⟩ <;> cases h.symm.trans ht
  · exact tracesNoFrame_applyItems now items s
  · exact tracesNoFrame_warn _ s

/-! ## Frames -/

/-- After its trace, a CRC-valid Long frame is acknowledged and its length is checked (R210). -/
theorem tracesNoFrame_acceptLong (command : Byte) (f : LongFrame) (s : State) :
    TracesNoFrame (emit (.frameTrace (longFrameBytes command f) true) s) (acceptLong command f s) := by
  refine TracesNoFrame.trans ?_ (tracesNoFrame_warnIf _ _)
  rcases autoAcknowledge_cases (emit (.frameTrace (longFrameBytes command f) true) s) with ⟨-, h⟩ | ⟨-, h⟩ <;> rw [h]
  · exact tracesNoFrame_of_evt
  · exact tracesNoFrame_send minAck _

/-- The handler that a Long frame's command byte selects traces no frame (R210). -/
theorem runFrame_longRow_handler (now : Nat) (c : Byte) (f : LongFrame) :
    ∃ handler : State → Result, (∀ s, runFrame (longRow now c f) s = receiveLong c f handler s) ∧
      ∀ s t, handler s = .next t → TracesNoFrame s t := by
  have hnext {handler : State → State} (h : ∀ s, TracesNoFrame s (handler s)) (s t : State)
      (ht : (.next (handler s) : Result) = .next t) : TracesNoFrame s t := by
    cases ht
    exact h s
  unfold longRow
  split
  case h_1 | h_2 | h_19 => exact ⟨_, fun _ => rfl, hnext (tracesNoFrame_statusReply f.payload _ now)⟩
  case h_20 | h_21 | h_22 | h_23 => exact ⟨_, fun _ => rfl, fun _ _ => tracesNoFrame_altFrame⟩
  case h_24 => exact ⟨_, fun _ => rfl, hnext (tracesNoFrame_warn (.unknownCommand c))⟩
  all_goals exact ⟨_, fun _ => rfl, hnext (tracesNoFrame_walk _ now f.payload)⟩

theorem runFrame_shortRow_handler (code : Byte) :
    ∃ handler : State → State, (∀ s, runFrame (shortRow code) s = receiveShort code handler s) ∧ ∀ s, TracesNoFrame s (handler s) := by
  unfold shortRow
  split
  case h_1 | h_2 => exact ⟨_, fun _ => rfl, fun _ => tracesNoFrame_of_evt⟩
  case h_3 => exact ⟨_, fun _ => rfl, tracesNoFrame_busy⟩
  case h_4 => exact ⟨_, fun _ => rfl, tracesNoFrame_warn (.unknownShortCode code)⟩

/-- Over an open transport, a frame that is run is traced first and once (R210, R404). -/
theorem receiveLong_traced {c : Byte} {f : LongFrame} {handler : State → Result} {s t : State} (ho : s.transportOpen = true)
    (hhandler : ∀ u v, handler u = .next v → TracesNoFrame u v) (ht : receiveLong c f handler s = .next t) :
    ∃ ok, TracesNoFrame (emit (.frameTrace (longFrameBytes c f) ok) s) t := by
  rcases receiveLong_cases ht with ⟨hclosed, -⟩ | ⟨-, -, rfl⟩ | ⟨-, -, hrun⟩
  · exact absurd (ho.symm.trans hclosed) nofun
  · exact ⟨false, tracesNoFrame_of_evt⟩
  · exact ⟨true, (tracesNoFrame_acceptLong c f s).trans (hhandler _ _ hrun)⟩

/-- A `Dispatch` over an open transport traces the oldest frame first and once. -/
theorem stepDispatch_traced {now : Nat} {q : Frame} {rest : List Frame} {s t : State} (hwf : frameWf q = true)
    (hq : s.frameQ = q :: rest) (ho : s.transportOpen = true) (ht : exec (.stepDispatch now) s = .next t) :
    ∃ ok, TracesNoFrame (emit (.frameTrace q.bytes ok) { s with frameQ := rest }) t := by
  rcases frameWf_cases hwf with ⟨c, f, hf, rfl⟩ | ⟨code, rfl⟩
  · obtain ⟨handler, hrun, hhandler⟩ := runFrame_longRow_handler now c f
    rw [exec_stepDispatch_open hq ho (decodeRxLong_longFrameBytes now c f hf), hrun] at ht
    exact receiveLong_traced ho hhandler ht
  · obtain ⟨handler, hrun, hhandler⟩ := runFrame_shortRow_handler code
    have hd : decodeFrame now .short (shortFrameBytes code) = .ok (shortRow code) := rfl
    rw [exec_stepDispatch_open hq ho hd, hrun] at ht
    cases (receiveShort_open handler (s := { s with frameQ := rest }) ho).symm.trans ht
    exact ⟨true, hhandler _⟩

/-! ## The obligation -/

/-- The alternate commands are `0xD1` to `0xD4` (R219). -/
theorem altCommand_bounds {c : Byte} (h : c ∈ [0xD1#8, 0xD2#8, 0xD3#8, 0xD4#8]) : 0xD1 ≤ c.toNat ∧ c.toNat ≤ 0xD4 := by
  simp only [List.mem_cons, List.not_mem_nil, or_false] at h
  rcases h with rfl | rfl | rfl | rfl <;> decide

/-- Settles O44: a `Dispatch` completes unless an alternate frame waits for its decoder; it continues the state without the oldest frame, after its trace. -/
theorem dispatchTakesOldestFrameAndReportsIt : Obligations.DispatchTakesOldestFrameAndReportsIt := by
  intro s now q rest hinv hq halt
  obtain ⟨t, ht⟩ : ∃ t, exec (.stepDispatch now) s = .next t := by
    refine (exec_stepDispatch_cases now hinv.queue).resolve_left ?_
    rintro ⟨c, f, rest', hwait, -⟩
    obtain ⟨rfl, -⟩ := List.cons.inj (hq.symm.trans hwait.oldest)
    obtain ⟨hlo, hhi⟩ := altCommand_bounds hwait.alternate
    exact absurd (hwait.undecoded.symm.trans (halt hwait.isOpen c rfl rfl hlo hhi)) nofun
  have hcont := continues_stepDispatch hq ht
  refine ⟨t, ht, hcont.frameQ, hcont.rxBuf, fun ho => ?_, fun hclosed => ?_⟩
  · obtain ⟨ok, more, hevt, hmore⟩ := stepDispatch_traced (hinv.queue q (by simp [hq])) hq ho ht
    exact ⟨ok, more, hevt, hmore⟩
  · cases (exec_stepDispatch_closed now hq hclosed).symm.trans ht
    rfl

end Sys2Proof.Proofs.Reports

/-! # Encodings

Both directions between the decoders and the encoder (30_encoding.md, R350). Each format has two facts: its decoder reads the words that the encoder
lays out (part of them stand in `Sys2Proof.Laws`), and what it accepts is laid out that way. -/

namespace Sys2Proof.Proofs.Encoding

open Sys2Proof Sys2Proof.Machine Sys2Proof.Laws

-- One theorem after the other, as in `Sys2Proof.Tests`: the whole text elaborated at once asks for more threads than the memory bound has.
set_option Elab.async false

/-! ## BCD fields of outbound frames (R85) -/

theorem nibbles_packDigits : ∀ hi < 10, ∀ lo < 10, (highNibble (packDigits hi lo)).toNat = hi ∧ (lowNibble (packDigits hi lo)).toNat = lo := by
  decide

theorem decimalDigit_lt (m k : Nat) : decimalDigit m k < 10 := Nat.mod_lt _ (by decide)

theorem highNibble_packDigits (m k j : Nat) : (highNibble (packDigits (decimalDigit m k) (decimalDigit m j))).toNat = decimalDigit m k :=
  (nibbles_packDigits _ (decimalDigit_lt m k) _ (decimalDigit_lt m j)).1

theorem lowNibble_packDigits (m k j : Nat) : (lowNibble (packDigits (decimalDigit m k) (decimalDigit m j))).toNat = decimalDigit m j :=
  (nibbles_packDigits _ (decimalDigit_lt m k) _ (decimalDigit_lt m j)).2

theorem bcdDigit_of_lt {x : Nibble} (h : x.toNat < 10) : bcdDigit x = x.toNat := if_neg (Nat.not_le.2 h)

theorem bcdPair_packDigits (m k j : Nat) :
    bcdPair (packDigits (decimalDigit m k) (decimalDigit m j)) = decimalDigit m k * 10 + decimalDigit m j := by
  simp [bcdPair, bcdDigit_of_lt, highNibble_packDigits, lowNibble_packDigits, decimalDigit_lt]

theorem bcdValid_encode4 (n : Int) : bcdValid (encode4 n) = true := by
  simp [bcdValid, encode4, highNibble_packDigits, lowNibble_packDigits, decimalDigit_lt]

/-- Eight decimal digits determine a number below `10^8`. -/
theorem decode4_encode4 (n : Int) : decode4 (encode4 n) = clampInt n 0 Config.enc4Max := by
  have hm : clampInt n 0 Config.enc4Max ≤ 99999999 := by simp [clampInt, Config.enc4Max]
  simp only [decode4, decodeBcd, encode4, List.take, List.foldl, bcdPair_packDigits]
  simp only [decimalDigit]
  omega

theorem clampInt_of_mem {n : Int} {lo hi : Nat} (hlo : lo ≤ n) (hhi : n ≤ hi) : (clampInt n lo hi : Int) = n := by
  unfold clampInt
  omega

/-- A volume within the preset's bounds reads back from its field (R194). -/
theorem decode4_encode4_presetClamp {v : Int} (hlo : 10 ≤ v) (hhi : v ≤ 25000) : (decode4 (encode4 (presetClamp v)) : Int) = v := by
  have hv : (presetClamp v : Int) = v := clampInt_of_mem hlo hhi
  rw [decode4_encode4, hv]
  exact clampInt_of_mem (by omega) (by simp only [Config.enc4Max]; omega)

/-! ## Outbound frames (R84 to R86) -/

theorem decodeTxLong_encodeGeneric (order : CrcOrder) (addr nozzle code : Byte) :
    decodeTxLong order (encodeGeneric addr nozzle code order) = .ok (.txGeneric addr nozzle code) := by
  cases order <;> simp [decodeTxLong, encodeGeneric, longClose, crcPair]

theorem decodeTxLong_encodeTotalsRequest (order : CrcOrder) (addr nozzle : Byte) :
    decodeTxLong order (encodeTotalsRequest addr nozzle order) = .ok (.txTotalsRequest addr nozzle) := by
  cases order <;> simp [decodeTxLong, encodeTotalsRequest, longClose, crcPair]

/-- A frame closed over the head of R85 and a field of decimal digits is the preset of the field's number. -/
theorem decodeTxLong_preset (order : CrcOrder) (addr d0 d1 d2 d3 : Byte) (hd : bcdValid [d0, d1, d2, d3] = true) :
    decodeTxLong order (longClose [addr, 0x30#8, 0x03#8, 0x04#8, d0, d1, d2, d3] order) =
      .ok (.txPresetVolume addr (decode4 [d0, d1, d2, d3])) := by
  cases order <;> simp [decodeTxLong, longClose, crcPair, hd]

theorem decodeTxLong_encodePreset (order : CrcOrder) (addr : Byte) {v : Int} (hlo : 10 ≤ v) (hhi : v ≤ 25000) :
    decodeTxLong order (encodePreset addr v order) = .ok (.txPresetVolume addr v) := by
  have hframe := decodeTxLong_preset order addr _ _ _ _ (bcdValid_encode4 (presetClamp v))
  rwa [← encode4, decode4_encode4_presetClamp hlo hhi] at hframe

/-! ## Lines of words (log entry 1) -/

theorem decodeStep_encodeSessionReset (load : Option Counters) : decodeStep (encodeSessionReset load) = .ok (.stepSessionReset load) := by
  cases load <;> rfl

theorem decodeStep_byte (b : Byte) : decodeStep [0, b.toNat] = .ok (.stepRxByte b) := by
  simp [decodeStep, byteWord_toNat, Except.map]

theorem exists_ok_of_map_eq_ok {α β : Type} {f : α → β} {x : Except Reject α} {b : β} (h : x.map f = .ok b) :
    ∃ a, x = .ok a ∧ f a = b := by
  cases x with
  | error why => cases h
  | ok a => exact ⟨a, rfl, Except.ok.inj h⟩

theorem toNat_of_byteWord {n : Nat} {b : Byte} (h : byteWord n = .ok b) : b.toNat = n := by
  unfold byteWord at h
  split at h
  case isTrue hn =>
    cases h
    simpa using hn
  case isFalse => cases h

theorem ofFlag_of_flagWord {n : Nat} {b : Bool} (h : flagWord n = .ok b) : ofFlag b = n := by
  unfold flagWord at h
  split at h <;> cases h <;> rfl

theorem ofOrder_of_orderWord {n : Nat} {o : CrcOrder} (h : orderWord n = .ok o) : ofOrder o = n := by
  unfold orderWord at h
  split at h <;> cases h <;> rfl

theorem ofPumpState_of_pumpStateWord {n : Nat} {p : PumpState} (h : pumpStateWord n = .ok p) : ofPumpState p = n := by
  unfold pumpStateWord at h
  split at h <;> cases h <;> rfl

theorem ofInt_of_intWords {sign magnitude : Nat} {v : Int} (h : intWords sign magnitude = .ok v) : ofInt v = [sign, magnitude] := by
  unfold intWords at h
  split at h <;> cases h <;> rfl

/-- An operation is accepted from its own words only (R350). -/
theorem encodeHostOp_of_decodeHostOp {n : Nat} {args : List Nat} {op : HostOp} (h : decodeHostOp n args = .ok op) :
    encodeHostOp op = n :: args := by
  unfold decodeHostOp at h
  split at h
  case h_1 | h_9 =>
    obtain ⟨b, hb, rfl⟩ := exists_ok_of_map_eq_ok h
    simp [encodeHostOp, toNat_of_byteWord hb]
  case h_2 =>
    obtain ⟨v, hv, rfl⟩ := exists_ok_of_map_eq_ok h
    simp [encodeHostOp, ofInt_of_intWords hv]
  case h_6 =>
    obtain ⟨o, ho, rfl⟩ := exists_ok_of_map_eq_ok h
    simp [encodeHostOp, ofOrder_of_orderWord ho]
  case h_7 | h_8 =>
    obtain ⟨b, hb, rfl⟩ := exists_ok_of_map_eq_ok h
    simp [encodeHostOp, ofFlag_of_flagWord hb]
  case h_11 =>
    obtain ⟨p, hp, rfl⟩ := exists_ok_of_map_eq_ok h
    simp [encodeHostOp, ofPumpState_of_pumpStateWord hp]
  case h_12 => split at h <;> cases h
  all_goals
    cases h
    rfl

theorem encode_hostRow (order : CrcOrder) (op : HostOp) : (encode order (hostRow op)).2 = .host (encodeHostOp op) := by
  cases op <;> rfl

theorem encode_of_decodeHost (order : CrcOrder) {words : List Nat} {i : Instr} (h : decodeHost words = .ok i) :
    (encode order i).2 = .host words := by
  cases words with
  | nil => cases h
  | cons n args =>
    obtain ⟨op, hop, rfl⟩ := exists_ok_of_map_eq_ok h
    rw [encode_hostRow, encodeHostOp_of_decodeHostOp hop]

theorem encode_of_decodeStep (order : CrcOrder) {words : List Nat} {i : Instr} (h : decodeStep words = .ok i) :
    (encode order i).2 = .step words := by
  unfold decodeStep at h
  split at h
  case h_1 => cases h
  case h_2 =>
    obtain ⟨b, hb, rfl⟩ := exists_ok_of_map_eq_ok h
    simp [encode, toNat_of_byteWord hb]
  case h_5 =>
    obtain ⟨op, hop, rfl⟩ := exists_ok_of_map_eq_ok h
    simp [encode, encodeHostOp_of_decodeHostOp hop]
  case h_9 => split at h <;> cases h
  all_goals
    cases h
    rfl

/-! ## Inbound Long frames (R81, R88) -/

/-- A frame that has fields is laid out from them, and its payload is not empty (R170). -/
theorem eq_longFrameBytes_of_splitLong {bytes : List Byte} {c : Byte} {f : LongFrame} (h : splitLong bytes = .ok (c, f)) :
    f.wf = true ∧ bytes = longFrameBytes c f := by
  unfold splitLong at h
  split at h
  case h_2 => cases h
  case h_1 addr command rest =>
    split at h
    case h_2 => cases h
    case h_1 k1 k2 e t hlast =>
      split_ifs at h with hlen htrailer hetx
      cases h
      have hrest : rest = rest.take (rest.length - 4) ++ [k1, k2, e, t] := by rw [← hlast, List.take_append_drop]
      refine ⟨?_, ?_⟩
      · have hpos : 0 < (rest.take (rest.length - 4)).length := by simp; omega
        simpa [LongFrame.wf] using List.ne_nil_of_length_pos hpos
      · rw [not_not] at htrailer hetx
        simpa [longFrameBytes, htrailer, hetx] using hrest

/-- The command bytes that have a row of their own, one by one (R88). -/
theorem mem_of_knownCommand : ∀ c : Byte, knownCommand c = true →
    c ∈ [0x01#8, 0x30#8, 0x31#8, 0x32#8, 0x33#8, 0x34#8, 0x35#8, 0x36#8, 0x37#8, 0x38#8, 0x39#8, 0x3A#8, 0x3B#8, 0x3C#8, 0x3D#8,
      0x3E#8, 0x3F#8, 0x65#8, 0xCD#8, 0xD1#8, 0xD2#8, 0xD3#8, 0xD4#8] := by decide +kernel

theorem wf_longRow (now : Nat) (c : Byte) {f : LongFrame} (hf : f.wf = true) : (longRow now c f).wf = true := by
  cases hc : knownCommand c with
  | false => simp [longRow_unknown now c f hc, Instr.wf, hc, hf]
  | true =>
    have hmem := mem_of_knownCommand c hc
    unfold longRow
    split
    case h_24 => simp_all
    all_goals exact hf

theorem encode_longRow (order : CrcOrder) (now : Nat) (c : Byte) (f : LongFrame) :
    (encode order (longRow now c f)).2 = .rxLong (longFrameBytes c f) := by
  unfold longRow
  split <;> rfl

theorem encode_of_decodeRxLong (order : CrcOrder) {now : Nat} {bytes : List Byte} {i : Instr} (h : decodeRxLong now bytes = .ok i) :
    i.wf = true ∧ (encode order i).2 = .rxLong bytes := by
  obtain ⟨⟨c, f⟩, hsplit, rfl⟩ := exists_ok_of_map_eq_ok h
  obtain ⟨hf, rfl⟩ := eq_longFrameBytes_of_splitLong hsplit
  exact ⟨wf_longRow now c hf, encode_longRow order now c f⟩

/-! ## Short frames, sub-records and status codes (R89 to R93) -/

theorem wf_shortRow (code : Byte) : (shortRow code).wf = true := by
  unfold shortRow
  split
  case h_4 => simp_all [Instr.wf, knownShortCode]
  all_goals rfl

theorem encode_shortRow (order : CrcOrder) (code : Byte) : (encode order (shortRow code)).2 = .rxShort (shortFrameBytes code) := by
  unfold shortRow
  split <;> rfl

theorem encode_of_decodeRxShort (order : CrcOrder) {bytes : List Byte} {i : Instr} (h : decodeRxShort bytes = .ok i) :
    i.wf = true ∧ (encode order i).2 = .rxShort bytes := by
  unfold decodeRxShort at h
  split at h
  case h_2 => cases h
  case h_1 lead code sf =>
    split_ifs at h with hlead htrailer
    cases h
    rw [not_not] at hlead htrailer
    exact ⟨wf_shortRow code, by rw [encode_shortRow, hlead, htrailer, shortFrameBytes]⟩

theorem wf_recordRow (now : Nat) (totals : Bool) {r : SubRecord} (hd : recordDataWf r.data = true) : (recordRow now totals r).wf = true := by
  obtain ⟨trans, data⟩ := r
  cases ht : knownTrans trans with
  | false => simpa [recordRow_unknown now totals trans data ht, Instr.wf, ht] using hd
  | true =>
    obtain (rfl | rfl) | rfl : (trans = 0x01#8 ∨ trans = 0x02#8) ∨ trans = 0x03#8 := by simpa [knownTrans] using ht
    · exact hd
    · exact hd
    · cases totals <;> exact hd

theorem encode_recordRow (order : CrcOrder) (now : Nat) (totals : Bool) (r : SubRecord) :
    (encode order (recordRow now totals r)).2 = .subRec (subRecordBytes r.trans r.data) := by
  unfold recordRow
  split <;> simp_all [encode]

/-- A sub-record is accepted when its length byte counts its data (R89). -/
theorem encode_of_decodeSubRec (order : CrcOrder) {now : Nat} {totals : Bool} {bytes : List Byte} {i : Instr}
    (h : decodeSubRec now totals bytes = .ok i) : i.wf = true ∧ (encode order i).2 = .subRec bytes := by
  unfold decodeSubRec at h
  split at h
  case h_2 => cases h
  case h_1 trans length data =>
    split_ifs at h with hlength
    cases h
    have hbound : data.length ≤ 255 := by omega
    refine ⟨wf_recordRow now totals (by simpa [recordDataWf] using hbound), ?_⟩
    simp [encode_recordRow, subRecordBytes, ← hlength]

/-- The codes with a row in the base table, one by one (R91). -/
theorem mem_of_baseTableCode : ∀ c : Byte, baseTableCode c = true →
    c ∈ [0x00#8, 0x01#8, 0x02#8, 0x03#8, 0x04#8, 0x05#8, 0x06#8] := by decide +kernel

theorem wf_decodeStatusBase (now : Nat) (code : Byte) : (decodeStatusBase now code).wf = true := by
  cases hc : baseTableCode code with
  | false => simp [decodeStatusBase_unmapped now code hc, Instr.wf, hc]
  | true =>
    have hmem := mem_of_baseTableCode code hc
    unfold decodeStatusBase
    split
    case h_8 => simp_all
    all_goals rfl

theorem encode_decodeStatusBase (order : CrcOrder) (now : Nat) (code : Byte) :
    (encode order (decodeStatusBase now code)).2 = .statusBase code := by
  unfold decodeStatusBase
  split <;> rfl

/-- The codes with a row in the extended table, one by one (R91). -/
theorem mem_of_extendedTableCode : ∀ c : Byte, extendedTableCode c = true →
    c ∈ [0x00#8, 0x01#8, 0x02#8, 0x03#8, 0x04#8, 0x05#8, 0x06#8, 0x07#8, 0x0B#8] := by decide +kernel

theorem wf_decodeStatusExt (now : Nat) (code : Byte) : (decodeStatusExt now code).wf = true := by
  cases hc : extendedTableCode code with
  | false => simp [decodeStatusExt_unmapped now code hc, Instr.wf, hc]
  | true =>
    have hmem := mem_of_extendedTableCode code hc
    unfold decodeStatusExt
    split
    case h_10 => simp_all
    all_goals rfl

theorem encode_decodeStatusExt (order : CrcOrder) (now : Nat) (code : Byte) :
    (encode order (decodeStatusExt now code)).2 = .statusExt code := by
  unfold decodeStatusExt
  split <;> rfl

/-! ## The obligations -/

/-- Settles O46: per format, the decoder reads what the encoder lays out; a catch-all row's selector is none of the named ones. -/
theorem decodeOfEncodeIsIdentity : Obligations.DecodeOfEncodeIsIdentity := by
  intro order i hwf
  cases i with
  | rxDirectStatus now f | rxStatusReply now f | rxComposite31 now f | rxComposite32 now f | rxComposite33 now f
  | rxComposite34 now f | rxComposite35 now f | rxComposite36 now f | rxComposite37 now f | rxComposite38 now f
  | rxComposite39 now f | rxComposite3a now f | rxComposite3b now f | rxComposite3c now f | rxComposite3d now f
  | rxComposite3e now f | rxComposite3f now f | rxCompositeTotals now f | rxStatusReplyCd now f | rxAltStatus now f
  | rxAltVolume now f | rxAltTotals now f | rxAltNozzle now f => exact decodeRxLong_longFrameBytes now _ f hwf
  | rxUnknownCommand c f =>
    obtain ⟨hc, hf⟩ : knownCommand c = false ∧ f.wf = true := by simpa [Instr.wf] using hwf
    exact (decodeRxLong_longFrameBytes 0 c f hf).trans (congrArg _ (longRow_unknown 0 c f hc))
  | rxPollEcho | rxAckEcho | rxBusy => rfl
  | rxUnknownShort c =>
    have hc : knownShortCode c = false := by simpa [Instr.wf] using hwf
    exact congrArg _ (shortRow_unknown c hc)
  | subStatus now o data => exact decodeSubRec_subRecordBytes now o _ data hwf
  | subFilledVolumeAmount o data => exact decodeSubRec_subRecordBytes 0 o _ data hwf
  | subNozzlePrice data => exact decodeSubRec_subRecordBytes 0 false _ data hwf
  | subTotals data => exact decodeSubRec_subRecordBytes 0 true _ data hwf
  | subUnknownTrans o t data =>
    obtain ⟨ht, hd⟩ : knownTrans t = false ∧ recordDataWf data = true := by simpa [Instr.wf] using hwf
    exact (decodeSubRec_subRecordBytes 0 o t data hd).trans (congrArg _ (recordRow_unknown 0 o t data ht))
  | stUnmapped now c =>
    have hc : baseTableCode c = false := by simpa [Instr.wf] using hwf
    exact congrArg _ (decodeStatusBase_unmapped now c hc)
  | stxUnmapped now c =>
    have hc : extendedTableCode c = false := by simpa [Instr.wf] using hwf
    exact congrArg _ (decodeStatusExt_unmapped now c hc)
  | stNotProgrammed | stReset | stAuthorized | stCode03 | stFilling | stFillingCompleted | stMaxAmountVolume => rfl
  | stxNotProgrammed | stxReset | stxAuthorized | stxCode03 | stxFilling | stxFillingCompleted | stxMaxAmountVolume
  | stxSwitchedOff | stxSuspended => rfl
  | txPresetVolume addr v =>
    obtain ⟨hlo, hhi⟩ : 10 ≤ v ∧ v ≤ 25000 := by simpa [Instr.wf] using hwf
    exact decodeTxLong_encodePreset order addr hlo hhi
  | txGeneric addr nozzle code => exact decodeTxLong_encodeGeneric order addr nozzle code
  | txTotalsRequest addr nozzle => exact decodeTxLong_encodeTotalsRequest order addr nozzle
  | txMinPoll | txMinAck => rfl
  | hostSendGeneric | hostSendPresetVolume | hostSendTotalsRequest | hostSendMinPoll | hostSendMinAck | hostSetCrcOrder
  | hostSetAutoAck | hostSetAutoPoll | hostTransportOpen | hostTransportClose | hostIntentHint =>
    simp only [encode, decode, decodeHost_encodeHostOp, hostRow]
  | stepRxByte b => exact decodeStep_byte b
  | stepHost op => exact decodeStep_host op
  | stepSessionReset load => exact decodeStep_encodeSessionReset load
  | stepDispatch | stepTimerFire | stepTransportFault => rfl

/-- Settles O47: what a decoder accepts is laid out from its fields, and the row that its selector picks encodes to that layout. -/
theorem encodeOfDecodeIsIdentity : Obligations.EncodeOfDecodeIsIdentity :=
  ⟨fun order _ _ _ => encode_of_decodeRxLong order,
    fun order _ _ => encode_of_decodeRxShort order,
    fun order _ _ _ _ => encode_of_decodeSubRec order,
    fun order now code => ⟨wf_decodeStatusBase now code, encode_decodeStatusBase order now code,
      wf_decodeStatusExt now code, encode_decodeStatusExt order now code⟩,
    fun order _ _ => encode_of_decodeHost order,
    fun order _ _ => encode_of_decodeStep order⟩

/-- The CRC bytes of the generic frame `50 30 01 01 06` (R84, R191). -/
theorem encodeGeneric_authorize :
    encodeGeneric 0x50#8 0x01#8 0x06#8 .loHi = [0x50#8, 0x30#8, 0x01#8, 0x01#8, 0x06#8, 0x1F#8, 0x5E#8, 0x03#8, 0xFA#8] := by
  decide +kernel

/-- Settles O48: each word is the layout of what it stands for, written out; only the outbound frame's CRC bytes are computed. -/
theorem writtenOutWordsDecode : Obligations.WrittenOutWordsDecode :=
  ⟨decodeRxLong_longFrameBytes 0 0x30#8 ⟨0x50#8, [0x04#8], 0x15#8, 0xD2#8⟩ rfl,
    decodeRxLong_longFrameBytes 0 0x31#8
      ⟨0x50#8, [0x01#8, 0x01#8, 0x02#8, 0x03#8, 0x04#8, 0x00#8, 0x12#8, 0x50#8, 0x11#8], 0x12#8, 0x5D#8⟩ rfl,
    rfl,
    decodeSubRec_subRecordBytes 0 false 0x03#8 [0x00#8, 0x12#8, 0x50#8, 0x11#8] rfl,
    rfl,
    encodeGeneric_authorize ▸ decodeTxLong_encodeGeneric .loHi 0x50#8 0x01#8 0x06#8,
    rfl,
    decodeHost_encodeHostOp (.transportOpen 0x50#8),
    decodeStep_byte 0xFA#8⟩

end Sys2Proof.Proofs.Encoding

/-! # The CRC engine

One bit-shift bit by bit (R121), the byte and the sequence (R122, R123), the bit-serial form with the loop invariant of R124, and the laws of R125. A
bit-shift is linear, which gives R125 (a); it is injective and only shifts where the low bit is clear, which gives the residue in both byte orders. -/

namespace Sys2Proof.Proofs.Crc

open Sys2Proof Sys2Proof.Machine

/-! ## One bit-shift (R121) -/

theorem crcBit_of_low_clear {acc : Word16} (h : acc.getLsbD 0 = false) : crcBit acc = acc >>> 1 := by
  rw [crcBit, h, if_neg Bool.false_ne_true]

theorem getLsbD_crcBit (acc : Word16) (k : Nat) :
    (crcBit acc).getLsbD k = (acc.getLsbD (k + 1) ^^ (acc.getLsbD 0 && Config.poly.getLsbD k)) := by
  rw [crcBit, Nat.add_comm k 1]
  cases acc.getLsbD 0 <;> simp

/-- `POLY` has bits 15, 13 and 0, so bits 1 to 12 are only shifted. -/
theorem getLsbD_poly_middle : ∀ k ≤ 12, 1 ≤ k → Config.poly.getLsbD k = false := by decide

/-- Bit 15 of the shifted word is the feedback bit. -/
theorem getLsbD_crcBit_top (acc : Word16) : (crcBit acc).getLsbD 15 = acc.getLsbD 0 := by
  rw [getLsbD_crcBit, BitVec.getLsbD_of_ge acc 16 (Nat.le_refl _), show Config.poly.getLsbD 15 = true from rfl,
    Bool.and_true, Bool.false_xor]

theorem crcBit_xor (a b : Word16) : crcBit (a ^^^ b) = crcBit a ^^^ crcBit b := by
  refine BitVec.eq_of_getLsbD_eq fun k _ => ?_
  simp only [getLsbD_crcBit, BitVec.getLsbD_xor, Bool.and_xor_distrib_right, Bool.xor_assoc, Bool.xor_left_comm]

/-- Nothing is lost in a bit-shift: bit 15 of the result tells the bit that was shifted out. -/
theorem crcBit_injective : Function.Injective crcBit := by
  intro a b h
  have hlow : a.getLsbD 0 = b.getLsbD 0 := by
    rw [← getLsbD_crcBit_top, h, getLsbD_crcBit_top]
  refine BitVec.eq_of_getLsbD_eq fun k _ => ?_
  cases k with
  | zero => exact hlow
  | succ k =>
    have hk : (crcBit a).getLsbD k = (crcBit b).getLsbD k := by rw [h]
    rwa [getLsbD_crcBit, getLsbD_crcBit, hlow, Bool.xor_left_inj] at hk

/-! ## Bit-shifts in a row -/

theorem crcBits_xor (n : Nat) (a b : Word16) : crcBits n (a ^^^ b) = crcBits n a ^^^ crcBits n b := by
  induction n generalizing a b with
  | zero => rfl
  | succ n ih => simp only [crcBits, crcBit_xor, ih]

theorem crcBits_injective (n : Nat) : Function.Injective (crcBits n) := by
  induction n with
  | zero => exact Function.injective_id
  | succ n ih => exact ih.comp crcBit_injective

/-- Over clear bits there is no feedback. -/
theorem crcBits_of_low_clear {n : Nat} {acc : Word16} (h : ∀ k < n, acc.getLsbD k = false) : crcBits n acc = acc >>> n := by
  induction n generalizing acc with
  | zero => simp [crcBits]
  | succ n ih =>
    have hrest : ∀ k < n, (acc >>> 1).getLsbD k = false := fun k hk => by
      rw [BitVec.getLsbD_ushiftRight, Nat.add_comm]
      exact h (k + 1) (Nat.succ_lt_succ hk)
    rw [crcBits, crcBit_of_low_clear (h 0 n.succ_pos), ih hrest, ← BitVec.shiftRight_add, Nat.add_comm]

/-- Eight bit-shifts take a byte from the high half of the word to the low half. -/
theorem crcBits_high_byte (b : Byte) : crcBits 8 (b.setWidth 16 <<< 8) = b.setWidth 16 := by
  rw [crcBits_of_low_clear fun k hk => by simp [hk]]
  refine BitVec.eq_of_getLsbD_eq fun k _ => ?_
  suffices k < 16 → b.getLsbD k = true → 8 + k < 16 by simpa
  intro _ hb
  have := BitVec.lt_of_getLsbD hb
  omega

/-! ## Bytes and sequences (R122, R123) -/

theorem crcByte_xor (a b : Word16) (x y : Byte) : crcByte (a ^^^ b) (x ^^^ y) = crcByte a x ^^^ crcByte b y := by
  rw [crcByte, crcByte, crcByte, ← crcBits_xor, BitVec.setWidth_xor]
  congr 1
  ac_rfl

theorem crcCompute_nil (init : Word16) : crcCompute [] init = init := rfl

theorem crcCompute_cons (b : Byte) (bytes : List Byte) (init : Word16) :
    crcCompute (b :: bytes) init = crcCompute bytes (crcByte init b) := rfl

theorem crcCompute_append (x y : List Byte) (init : Word16) :
    crcCompute (x ++ y) init = crcCompute y (crcCompute x init) := List.foldl_append

/-- R125 (a). -/
theorem crcCompute_xor {x y : List Byte} (h : x.length = y.length) (i j : Word16) :
    crcCompute x i ^^^ crcCompute y j = crcCompute (List.zipWith (fun a b => a ^^^ b) x y) (i ^^^ j) := by
  induction x generalizing y i j with
  | nil =>
    obtain rfl : y = [] := List.length_eq_zero_iff.1 h.symm
    rfl
  | cons a x ih =>
    cases y with
    | nil => cases h
    | cons b y => rw [List.zipWith_cons_cons, crcCompute_cons, crcCompute_cons, crcCompute_cons, ih (Nat.succ.inj h), crcByte_xor]

/-! ## The bit-serial form (R124) -/

/-- The induction step of R124: a bit-shift of the accumulator with the waiting bits `w` XORed in takes the lowest of them; the others move up one place. -/
theorem crcBit_xor_eq_crcSerialBit (acc w : Word16) :
    crcBit (acc ^^^ w) = crcSerialBit acc (w.getLsbD 0) ^^^ (w >>> 1) := by
  rw [crcBit, crcSerialBit, BitVec.getLsbD_xor, BitVec.ushiftRight_xor_distrib]
  split
  · ac_rfl
  · rfl

/-- The induction of R124: `n` bit-shifts with `w` XORed in beforehand are `n` data bits of `w`, up to the bits of `w` not consumed yet. -/
theorem crcBits_xor_eq_foldl_crcSerialBit (n : Nat) (acc w : Word16) :
    crcBits n (acc ^^^ w) = ((List.range n).map w.getLsbD).foldl crcSerialBit acc ^^^ (w >>> n) := by
  induction n generalizing acc w with
  | zero => simp [crcBits]
  | succ n ih =>
    have hbits : (List.range n).map (w >>> 1).getLsbD = ((List.range n).map Nat.succ).map w.getLsbD := by
      simp [Nat.add_comm]
    rw [crcBits, crcBit_xor_eq_crcSerialBit, ih, hbits, ← BitVec.shiftRight_add, Nat.add_comm 1 n, List.range_succ_eq_map]
    rfl

theorem crcByte_eq_foldl_crcSerialBit (acc : Word16) (b : Byte) :
    crcByte acc b = (bitsLsbFirst b).foldl crcSerialBit acc := by
  have hbits : (List.range 8).map (b.setWidth 16).getLsbD = bitsLsbFirst b := rfl
  have hconsumed : b.setWidth 16 >>> 8 = 0#16 := by
    refine BitVec.eq_of_getLsbD_eq fun k _ => ?_
    simp
  rw [crcByte, crcBits_xor_eq_foldl_crcSerialBit, hbits, hconsumed, BitVec.xor_zero]

/-- Settles O3: by induction on the bytes; for one byte, R124's invariant once all eight bits are consumed. -/
theorem crcBitSerialFormAgrees : Obligations.CrcBitSerialFormAgrees := by
  intro bytes init
  induction bytes generalizing init with
  | nil => rfl
  | cons b bytes ih =>
    rw [crcCompute_cons, crcByte_eq_foldl_crcSerialBit, ← ih, crcSerial, List.flatMap_cons, List.foldl_append]
    rfl

/-! ## The residue (R125 (c)) -/

/-- The accumulator from which a byte leads to a word with a zero high half. -/
theorem crcByte_eq_setWidth_iff (acc : Word16) (b r : Byte) :
    crcByte acc b = r.setWidth 16 ↔ acc ^^^ b.setWidth 16 = r.setWidth 16 <<< 8 := by
  rw [crcByte, ← crcBits_high_byte r, (crcBits_injective 8).eq_iff, crcBits_high_byte]

theorem crcByte_eq_zero_iff (acc : Word16) (b : Byte) : crcByte acc b = 0#16 ↔ acc = b.setWidth 16 := by
  rw [← BitVec.xor_eq_zero_iff (x := acc)]
  exact crcByte_eq_setWidth_iff acc b 0#8

theorem extractLsb'_low_of_bytes (hi lo : Byte) : (hi.setWidth 16 <<< 8 ^^^ lo.setWidth 16).extractLsb' 0 8 = lo := by
  refine BitVec.eq_of_getLsbD_eq fun k hk => ?_
  have hk' : k < 16 := by omega
  simp [hk, hk']

theorem extractLsb'_high_of_bytes (hi lo : Byte) : (hi.setWidth 16 <<< 8 ^^^ lo.setWidth 16).extractLsb' 8 8 = hi := by
  refine BitVec.eq_of_getLsbD_eq fun k hk => ?_
  have hk' : k < 16 ∧ 8 + k < 16 := by omega
  simp [hk, hk']

theorem word_of_its_bytes (c : Word16) :
    (c.extractLsb' 8 8).setWidth 16 <<< 8 ^^^ (c.extractLsb' 0 8).setWidth 16 = c := by
  refine BitVec.eq_of_getLsbD_eq fun k hk => ?_
  by_cases hlow : k < 8
  · simp [hlow, hk]
  · have hplace : 8 + (k - 8) = k ∧ k - 8 < 16 ∧ k - 8 < 8 := by omega
    simp [hlow, hk, hplace]

theorem xor_low_eq_high_iff (c : Word16) (lo hi : Byte) :
    c ^^^ lo.setWidth 16 = hi.setWidth 16 <<< 8 ↔ lo = c.extractLsb' 0 8 ∧ hi = c.extractLsb' 8 8 := by
  rw [← BitVec.xor_left_inj (lo.setWidth 16), BitVec.xor_assoc, BitVec.xor_self, BitVec.xor_zero]
  constructor
  · rintro rfl
    exact ⟨(extractLsb'_low_of_bytes hi lo).symm, (extractLsb'_high_of_bytes hi lo).symm⟩
  · rintro ⟨rfl, rfl⟩
    exact (word_of_its_bytes c).symm

/-- Two bytes after a sequence leave nothing exactly when they are its CRC, low byte first. -/
theorem crcCompute_append_pair_eq_zero_iff (x : List Byte) (p q : Byte) :
    crcCompute (x ++ [p, q]) = 0x0000#16 ↔
      p = (crcCompute x).extractLsb' 0 8 ∧ q = (crcCompute x).extractLsb' 8 8 := by
  rw [crcCompute_append, crcCompute_cons, crcCompute_cons, crcCompute_nil, crcByte_eq_zero_iff, crcByte_eq_setWidth_iff,
    xor_low_eq_high_iff]

/-- Settles O4: linearity and chaining by the laws above; both residue clauses are the one law of the appended pair, with its bytes in either order. -/
theorem crcLinearChainsAndLeavesNoResidue : Obligations.CrcLinearChainsAndLeavesNoResidue := by
  refine ⟨fun x y i j h => crcCompute_xor h i j, crcCompute_append, fun x => ?_, fun x => ?_, by decide +kernel⟩
  · exact (crcCompute_append_pair_eq_zero_iff x _ _).2 ⟨rfl, rfl⟩
  · rw [crcCompute_append_pair_eq_zero_iff, eq_comm, and_self]

/-! ## The definitions against the rules' text -/

/-- Settles O1: bit 15 and bits 1 to 12 by their lemmas, the other taps of `POLY` by its value. -/
theorem crcBitShiftFeedsBackLowBit : Obligations.CrcBitShiftFeedsBackLowBit := by
  refine ⟨fun acc => ⟨rfl, getLsbD_crcBit_top acc, ?_, ?_, fun k hpos hle => ?_, ?_⟩, by decide⟩
  · rw [getLsbD_crcBit, show Config.poly.getLsbD 14 = false from rfl, Bool.and_false, Bool.xor_false]
  · rw [getLsbD_crcBit, show Config.poly.getLsbD 13 = true from rfl, Bool.and_true]
  · rw [getLsbD_crcBit, getLsbD_poly_middle k hle hpos, Bool.and_false, Bool.xor_false]
  · rw [getLsbD_crcBit, show Config.poly.getLsbD 0 = true from rfl, Bool.and_true]

/-- Settles O2: the equations of R122 and R123 are the definitions unfolded; the corner values are computed. -/
theorem crcAbsorbsBytesInOrder : Obligations.CrcAbsorbsBytesInOrder :=
  ⟨fun _ _ => rfl, crcCompute_nil, crcCompute_cons, fun _ => rfl, by decide +kernel⟩

end Sys2Proof.Proofs.Crc

/-! # The BCD codec

What a nibble, a pair and a field read (R141 to R143), what `encode4` packs (R146), and the round trips (R147). The step of R142's loop moves the digits
read so far up by two places, so the digits that `encode4` takes from a decoded number are those of the field's bytes. -/

namespace Sys2Proof.Proofs.Bcd

open Sys2Proof Sys2Proof.Machine Sys2Proof.Proofs.Encoding

-- One theorem after the other, as in `Sys2Proof.Tests`: the whole text elaborated at once asks for more threads than the memory bound has.
set_option Elab.async false

/-! ## Digits and digit pairs of any byte (R141, R142) -/

theorem toNat_highNibble (b : Byte) : (highNibble b).toNat = b.toNat / 16 := by
  rw [highNibble, BitVec.extractLsb'_toNat, Nat.shiftRight_eq_div_pow]
  omega

theorem toNat_lowNibble (b : Byte) : (lowNibble b).toNat = b.toNat % 16 := by
  rw [lowNibble, BitVec.extractLsb'_toNat, Nat.shiftRight_zero]

theorem bcdDigit_lt (x : Nibble) : bcdDigit x < 10 := by
  unfold bcdDigit
  split <;> omega

theorem bcdPair_le (b : Byte) : bcdPair b ≤ 99 := by
  have hhi := bcdDigit_lt (highNibble b)
  have hlo := bcdDigit_lt (lowNibble b)
  unfold bcdPair
  omega

theorem packDigits_nibbles (b : Byte) : packDigits (highNibble b).toNat (lowNibble b).toNat = b := by
  decide +revert

/-! ## Cleaning a byte (R147 (b)) -/

theorem bcdPair_packDigits_of_lt {hi lo : Nat} (hhi : hi < 10) (hlo : lo < 10) : bcdPair (packDigits hi lo) = hi * 10 + lo := by
  obtain ⟨hhigh, hlow⟩ := nibbles_packDigits hi hhi lo hlo
  rw [bcdPair, bcdDigit_of_lt (by omega), bcdDigit_of_lt (by omega), hhigh, hlow]

theorem bcdPair_bcdClean (b : Byte) : bcdPair (bcdClean b) = bcdPair b :=
  bcdPair_packDigits_of_lt (bcdDigit_lt _) (bcdDigit_lt _)

theorem bcdClean_of_digits {b : Byte} (hhi : (highNibble b).toNat < 10) (hlo : (lowNibble b).toNat < 10) : bcdClean b = b := by
  rw [bcdClean, bcdDigit_of_lt hhi, bcdDigit_of_lt hlo, packDigits_nibbles]

theorem decode4_map_bcdClean (d : List Byte) : decode4 (d.map bcdClean) = decode4 d := by
  simp only [decode4, decodeBcd, ← List.map_take, List.foldl_map, bcdPair_bcdClean]

/-! ## Reading fields of four and five bytes (R142, R143) -/

theorem decode4_bytes (a b c d : Byte) :
    decode4 [a, b, c, d] = ((bcdPair a * 100 + bcdPair b) * 100 + bcdPair c) * 100 + bcdPair d := by
  simp [decode4, decodeBcd]

theorem decode5_bytes (a b c d e : Byte) : decode5 [a, b, c, d, e] = decode4 [a, b, c, d] * 100 + bcdPair e := rfl

theorem decode4_le (a b c d : Byte) : decode4 [a, b, c, d] ≤ 99999999 := by
  have ha := bcdPair_le a
  have hb := bcdPair_le b
  have hc := bcdPair_le c
  have hd := bcdPair_le d
  rw [decode4_bytes]
  omega

theorem decode5_le (a b c d e : Byte) : decode5 [a, b, c, d, e] ≤ 9999999999 := by
  have hfour := decode4_le a b c d
  have he := bcdPair_le e
  rw [decode5_bytes]
  omega

/-- Settles O6: R142's loop unrolled over four and over five bytes, each pair at most 99; the corner values are computed. -/
theorem bcdFieldsReadDigitPairs : Obligations.BcdFieldsReadDigitPairs :=
  ⟨fun _ => rfl, fun b => ⟨toNat_highNibble b, toNat_lowNibble b⟩,
    fun a b c d e => ⟨decode4_bytes a b c d, decode4_le a b c d, decode5_bytes a b c d e, decode5_le a b c d e⟩, by decide⟩

/-! ## Packing a clamped integer (R146) -/

theorem clampInt_enc4Max (n : Int) : clampInt n 0 Config.enc4Max = (max 0 (min n 99999999)).toNat := by
  simp only [clampInt, Config.enc4Max]
  omega

theorem encode4_getElem? (n : Int) {i : Nat} (hi : i < 4) :
    (encode4 n)[i]? = some (packDigits (decimalDigit (clampInt n 0 Config.enc4Max) (7 - 2 * i))
      (decimalDigit (clampInt n 0 Config.enc4Max) (6 - 2 * i))) := by
  match i, hi with
  | 0, _ | 1, _ | 2, _ | 3, _ => rfl

/-- Settles O7: byte `i` packs digits `7 - 2 i` and `6 - 2 i` of the clamped integer, and a packed digit reads back from its nibble. -/
theorem bcdEncodePacksClampedDigits : Obligations.BcdEncodePacksClampedDigits := by
  refine ⟨fun n i hi => ⟨_, encode4_getElem? n hi, ?_, ?_⟩, fun _ => rfl, by decide⟩
  · rw [highNibble_packDigits, clampInt_enc4Max, decimalDigit]
  · rw [lowNibble_packDigits, clampInt_enc4Max, decimalDigit]

/-! ## Digits of a number built from pairs -/

/-- The step of R142's loop moves every digit of the number before it up by two places. -/
theorem decimalDigit_append_pair (v k : Nat) (b : Byte) : decimalDigit (v * 100 + bcdPair b) (k + 2) = decimalDigit v k := by
  have hb := bcdPair_le b
  have hdrop : (v * 100 + bcdPair b) / 100 = v := by omega
  rw [decimalDigit, decimalDigit, Nat.pow_add', ← Nat.div_div_eq_div_mul, show (10 : Nat) ^ 2 = 100 from rfl, hdrop]

theorem decimalDigit_append_pair_one (v : Nat) (b : Byte) : decimalDigit (v * 100 + bcdPair b) 1 = bcdDigit (highNibble b) := by
  have hhi := bcdDigit_lt (highNibble b)
  have hlo := bcdDigit_lt (lowNibble b)
  simp only [decimalDigit, bcdPair]
  omega

theorem decimalDigit_append_pair_zero (v : Nat) (b : Byte) : decimalDigit (v * 100 + bcdPair b) 0 = bcdDigit (lowNibble b) := by
  have hlo := bcdDigit_lt (lowNibble b)
  simp only [decimalDigit, bcdPair]
  omega

theorem packDigits_append_pair (v : Nat) (b : Byte) :
    packDigits (decimalDigit (v * 100 + bcdPair b) 1) (decimalDigit (v * 100 + bcdPair b) 0) = bcdClean b := by
  rw [decimalDigit_append_pair_one, decimalDigit_append_pair_zero, bcdClean]

theorem clampInt_decode4 (a b c d : Byte) : clampInt (decode4 [a, b, c, d]) 0 Config.enc4Max = decode4 [a, b, c, d] :=
  Int.ofNat_inj.1 (clampInt_of_mem (Int.natCast_nonneg _) (Int.ofNat_le.2 (decode4_le a b c d)))

/-- The first pair of a field has no number before it. -/
theorem packDigits_first_pair (b : Byte) : packDigits (decimalDigit (bcdPair b) 1) (decimalDigit (bcdPair b) 0) = bcdClean b := by
  simpa using packDigits_append_pair 0 b

/-- R147 (b): each pair of R142's loop is read off again by the two digits of its own byte. -/
theorem encode4_decode4 {d : List Byte} (hd : d.length = 4) : encode4 (decode4 d) = d.map bcdClean := by
  obtain ⟨a, b, c, d, rfl⟩ := List.length_eq_four.1 hd
  simp only [encode4, clampInt_decode4]
  simp only [decode4_bytes, decimalDigit_append_pair, packDigits_append_pair, packDigits_first_pair, List.map]

theorem map_bcdClean_of_digits {d : List Byte} (hd : ∀ b ∈ d, (highNibble b).toNat < 10 ∧ (lowNibble b).toNat < 10) :
    d.map bcdClean = d :=
  (List.map_congr_left fun b hb => bcdClean_of_digits (hd b hb).1 (hd b hb).2).trans d.map_id

/-- Settles O8: a cleaned byte is read as the byte itself, and the digits of a decoded field are its cleaned bytes' digits. -/
theorem bcdRoundTrips : Obligations.BcdRoundTrips := by
  refine ⟨fun n => ?_, fun d hd => ⟨encode4_decode4 hd, decode4_map_bcdClean d, fun hdigits => ?_⟩⟩
  · rw [decode4_encode4, clampInt_enc4Max]
    omega
  · rw [encode4_decode4 hd, map_bcdClean_of_digits hdigits]

end Sys2Proof.Proofs.Bcd

/-! # The frame codec, byte by byte

The two shapes as R161 to R163 index the candidate, what a byte does to the receive buffer (R164) and a run of bytes against the scan of the whole buffer
(R166), and the Long rows, which share their steps up to the handler (R210), so that none of them runs it after a CRC failure (R173). -/

namespace Sys2Proof.Proofs.Codec

open Sys2Proof Sys2Proof.Machine Sys2Proof.Laws Sys2Proof.Proofs.Memory

/-! ## A run of bytes (R166) -/

/-- Settles O11: the steps leave the state after the scan, by the induction on the bytes of `feed_eq_afterScan`. -/
theorem byteStepsEqualWholeBufferScan : Obligations.ByteStepsEqualWholeBufferScan :=
  fun bytes _ hs hbuf => feed_eq_afterScan bytes hs hbuf

/-! ## One byte (R164) -/

/-- The long shape by the position of its ETX in the candidate (R162). -/
theorem hasLongShape_append_iff_getElem? {buf : List Byte} {b : Byte} :
    hasLongShape (buf ++ [b]) = true ↔ 7 ≤ buf.length + 1 ∧ (buf ++ [b])[buf.length - 1]? = some 0x03#8 := by
  simp [hasLongShape, Config.minLongLen, Config.etx]

/-- The short shape by the position of its lead byte in the candidate (R163). -/
theorem hasShortShape_append_iff_getElem? {buf : List Byte} {b : Byte} :
    hasShortShape (buf ++ [b]) = true ↔ buf.length + 1 = 3 ∧ (buf ++ [b])[0]? = some 0x50#8 := by
  simp [hasShortShape, Config.shortLead, List.head?_eq_getElem?]

/-- Settles O9: a byte that completes no shape is buffered; one that does is a trailer, and the frame it ends has the long shape where both would do. -/
theorem rxByteBuffersOrCutsFrame : Obligations.RxByteBuffersOrCutsFrame := by
  intro b s hs
  simp only [← hasLongShape_append_iff_getElem?, ← hasShortShape_append_iff_getElem?]
  rcases receiveByte_unbounded_cases b hs with ⟨hnone, hkept⟩ | ⟨shape, hframe, hcut⟩
  · have hlong : ¬ (b = 0xFA#8 ∧ hasLongShape (s.rxBuf ++ [b]) = true) := fun h => by simpa [hnone h.1] using h.2
    have hshort : ¬ (b = 0xFA#8 ∧ hasShortShape (s.rxBuf ++ [b]) = true) := fun h => by simpa [hnone h.1] using h.2
    rw [if_neg hlong, if_neg hshort]
    exact hkept.trans (by simp [afterScan])
  · refine Eq.trans hcut ?_
    rw [frameAt_last] at hframe
    split_ifs at hframe with htrailer hlong hshort
    · cases hframe
      rw [if_pos ⟨htrailer, hlong⟩]
      rfl
    · cases hframe
      rw [if_neg fun h => hlong h.2, if_pos ⟨htrailer, hshort⟩]
      rfl

/-! ## A Long frame whose CRC fails (R173) -/

/-- `i` is the row of command `c` for the Long frame `f`: in every state it takes the steps of R210 and runs a handler of its own only at their end. -/
def IsLongRow (c : Byte) (f : LongFrame) (i : Instr) : Prop :=
  ∃ handler : State → Result, ∀ s, exec i s = receiveLong c f handler s

/-- The handler does not matter after a CRC failure. -/
theorem IsLongRow.exec_of_crcOk_eq_false {c : Byte} {f : LongFrame} {i : Instr} {s : State} (hrow : IsLongRow c f i)
    (ho : s.transportOpen = true) (hc : crcOk c f s.crcOrder = false) :
    exec i s = .next (emit (.frameTrace (longFrameBytes c f) false) s) := by
  obtain ⟨handler, hexec⟩ := hrow
  rw [hexec, receiveLong_bad handler ho hc]

/-- Settles O30: each of the 24 rows is the Long row of its command, as its arm of `exec` says. -/
theorem crcFailureOnlyTraces : Obligations.CrcFailureOnlyTraces := by
  intro s now f command ho p hp
  have hrow : IsLongRow p.1 f p.2 := by
    fin_cases hp <;> exact ⟨_, fun _ => by simp only [exec]; rfl⟩
  exact hrow.exec_of_crcOk_eq_false ho

end Sys2Proof.Proofs.Codec

/-! # The command encoder

The frames that the block builds (R191 to R196), what happens to them on the way out (R199), and what becomes of a built frame that comes back to the
receiver (R201): the two side conditions say that no proper prefix of it is a frame, so the codec cuts it only at its own trailer. -/

namespace Sys2Proof.Proofs.Encoder

open Sys2Proof Sys2Proof.Machine Sys2Proof.Laws Sys2Proof.Proofs.Stops Sys2Proof.Proofs.Memory

/-! ## The CRC pair (R191) -/

theorem crcPair_cases (c : Word16) (order : CrcOrder) : ∃ k1 k2, crcPair c order = [k1, k2] := by
  cases order <;> exact ⟨_, _, rfl⟩

theorem extractLsb'_low_eq_ofNat (c : Word16) : c.extractLsb' 0 8 = BitVec.ofNat 8 (c.toNat % 256) :=
  BitVec.eq_of_toNat_eq (by simp)

theorem extractLsb'_high_eq_ofNat (c : Word16) : c.extractLsb' 8 8 = BitVec.ofNat 8 (c.toNat / 256) :=
  BitVec.eq_of_toNat_eq (by simp [Nat.shiftRight_eq_div_pow])

/-- Settles O14: the low byte is the remainder by 256 and the high byte the quotient; an order only exchanges them. -/
theorem crcPairFollowsOrder : Obligations.CrcPairFollowsOrder := by
  refine ⟨fun c => ⟨?_, ?_, fun hsame => ?_⟩, by decide⟩
  · rw [crcPair, extractLsb'_low_eq_ofNat, extractLsb'_high_eq_ofNat]
  · rw [crcPair, extractLsb'_low_eq_ofNat, extractLsb'_high_eq_ofNat]
  · rw [crcPair, crcPair, hsame]

/-! ## The layouts (R192, R193, R195, R196) -/

theorem length_crcPair (c : Word16) (order : CrcOrder) : (crcPair c order).length = 2 := by
  obtain ⟨k1, k2, hpair⟩ := crcPair_cases c order
  rw [hpair]
  rfl

theorem length_longClose (body : List Byte) (order : CrcOrder) : (longClose body order).length = body.length + 4 := by
  simp [longClose, length_crcPair]

/-- Settles O15: the layouts are the builders' definitions, the length that of the closing; the rules' examples are computed. -/
theorem outboundFrameLayouts : Obligations.OutboundFrameLayouts :=
  ⟨fun body order => ⟨rfl, length_longClose body order⟩, fun _ _ _ _ => ⟨rfl, rfl⟩, by decide +kernel⟩

/-! ## The preset frame (R194, R85) -/

theorem presetClamp_eq_max_min (volumeCl : Int) : (presetClamp volumeCl : Int) = max 10 (min volumeCl 25000) := by
  simp only [presetClamp, clampInt, Config.presetMinCl, Config.presetMaxCl]
  omega

theorem length_encodePreset (addr : Byte) (volumeCl : Int) (order : CrcOrder) : (encodePreset addr volumeCl order).length = 12 :=
  length_longClose _ order

/-- The volume field of the frame (R85). -/
theorem take_drop_encodePreset (addr : Byte) (volumeCl : Int) (order : CrcOrder) :
    ((encodePreset addr volumeCl order).drop 4).take 4 = encode4 (max 10 (min volumeCl 25000)) := by
  rw [← presetClamp_eq_max_min]
  rfl

/-- Settles O16: the clamp is the one of R12 on integers; beyond a bound the field is that of the bound. -/
theorem presetFrameCarriesClampedVolume : Obligations.PresetFrameCarriesClampedVolume := by
  refine ⟨fun addr volumeCl order => ⟨?_, length_encodePreset addr volumeCl order, fun hlow => ?_, fun hhigh => ?_⟩, by decide +kernel⟩
  · rw [encodePreset, presetClamp_eq_max_min]
  · have hclamp : max 10 (min volumeCl 25000) = 10 := by omega
    rw [take_drop_encodePreset, hclamp]
    decide
  · have hclamp : max 10 (min volumeCl 25000) = 25000 := by omega
    rw [take_drop_encodePreset, hclamp]
    decide

/-! ## The guarded transmit (R199) -/

theorem canSend_eq_true_iff {s : State} : canSend s = true ↔ s.transportOpen = true ∧ s.txFaulted = false := by
  simp [canSend]

/-- The state after a send, by the guard. -/
theorem send_snd_eq_ite (bytes : List Byte) (s : State) :
    (send bytes s).2 =
      if s.transportOpen = true ∧ s.txFaulted = false then { s with tx := s.tx ++ [bytes] }
      else { s with evt := s.evt ++ [.sendFailed] } := by
  simp only [← canSend_eq_true_iff]
  rcases send_cases bytes s with ⟨hcan, hsend⟩ | ⟨hcannot, hsend⟩
  · rw [hsend, if_pos hcan]
  · rw [hsend, if_neg (by simp [hcannot])]
    rfl

/-- Settles O17: each of the five rows gives its frame to `send`, as its arm of `exec` says. -/
theorem outboundFramesAreSentOrReported : Obligations.OutboundFramesAreSentOrReported := by
  intro s addr nozzle code volumeCl p hp
  have hrow : exec p.1 s = .next (send p.2 s).2 := by
    fin_cases hp <;> rfl
  rw [hrow, send_snd_eq_ite]

/-! ## A built frame as an inbound frame (R201) -/

/-- A closed body of at least three bytes is a Long frame with an address, a command and a payload, and its CRC is good. -/
theorem longClose_eq_longFrameBytes {body : List Byte} (hbody : 3 ≤ body.length) (order : CrcOrder) :
    ∃ (command : Byte) (f : LongFrame), f.wf = true ∧ [f.addr, command] ++ f.payload = body ∧
      longFrameBytes command f = longClose body order ∧ crcOk command f order = true := by
  match body, hbody with
  | addr :: command :: x :: payload, _ =>
    obtain ⟨k1, k2, hpair⟩ := crcPair_cases (crcCompute (addr :: command :: x :: payload)) order
    refine ⟨command, ⟨addr, x :: payload, k1, k2⟩, rfl, rfl, ?_, ?_⟩
    · simp [longFrameBytes, longClose, hpair]
    · simp [crcOk, hpair]

/-- A position where a complete frame ends, by the bytes of the buffer (R161 to R163). -/
theorem completeAt_eq_true_iff {buf : List Byte} {t : Nat} :
    completeAt buf t = true ↔
      buf[t]? = some 0xFA#8 ∧ (6 ≤ t ∧ buf[t - 1]? = some 0x03#8 ∨ t = 2 ∧ buf[0]? = some 0x50#8) := by
  simp only [completeAt, Bool.and_eq_true, Bool.or_eq_true, beq_iff_eq, Config.trailer]
  refine and_congr_right fun htrailer => ?_
  obtain ⟨ht, -⟩ := List.getElem?_eq_some_iff.1 htrailer
  have hlen : (buf.take (t + 1)).length = t + 1 := List.length_take_of_le ht
  have hlong : hasLongShape (buf.take (t + 1)) = true ↔ 6 ≤ t ∧ buf[t - 1]? = some 0x03#8 := by
    rw [hasLongShape, hlen, List.getElem?_take_of_lt (by omega)]
    simp [Config.minLongLen, Config.etx]
  have hshort : hasShortShape (buf.take (t + 1)) = true ↔ t = 2 ∧ buf[0]? = some 0x50#8 := by
    rw [hasShortShape, hlen, List.head?_eq_getElem?, List.getElem?_take_of_lt (by omega)]
    simp [Config.shortLead]
  rw [hlong, hshort]

/-- The side conditions of R201 leave no position of a buffer where a complete frame ends. -/
theorem noFrameIn_of_side_conditions {buf : List Byte}
    (hlong : ∀ t, 6 ≤ t → t < buf.length → ¬ (buf[t]? = some 0xFA#8 ∧ buf[t - 1]? = some 0x03#8))
    (hshort : ¬ (buf[0]? = some 0x50#8 ∧ buf[2]? = some 0xFA#8)) : noFrameIn buf = true := by
  simp only [noFrameIn, List.all_eq_true, List.mem_range, Bool.not_eq_true', Bool.eq_false_iff, ne_eq, completeAt_eq_true_iff]
  rintro t ht ⟨htrailer, ⟨hle, hetx⟩ | ⟨rfl, hlead⟩⟩
  · exact hlong t hle ht ⟨htrailer, hetx⟩
  · exact hshort ⟨hlead, htrailer⟩

/-- Bytes that end in a Long frame's trailer, and hold no frame before it, come back as that one frame. -/
theorem feed_long_frame {buf : List Byte} {s : State} (hs : unbounded s) (hempty : s.rxBuf = []) (hbuf : noFrameIn buf = true)
    (hlong : hasLongShape (buf ++ [Config.trailer]) = true) :
    feed (buf ++ [Config.trailer]) s =
      .next { s with frameQ := s.frameQ ++ [⟨.long, buf ++ [Config.trailer]⟩], rxBuf := [] } := by
  have hframe : frameAt (buf ++ [Config.trailer]) buf.length = some (.long, buf.length + 1) := by
    rw [frameAt_last, if_pos rfl, if_pos hlong]
  rw [feed_eq_afterScan _ hs (by rw [hempty]; rfl), hempty, List.nil_append, scanBuffer_append_of_frameAt hbuf hframe []]
  rfl

/-- The bytes of a built frame before its trailer: the body, the CRC pair and the ETX (R192). -/
def beforeTrailer (body : List Byte) (order : CrcOrder) : List Byte := body ++ crcPair (crcCompute body) order ++ [Config.etx]

theorem longClose_eq_append_trailer (body : List Byte) (order : CrcOrder) :
    longClose body order = beforeTrailer body order ++ [Config.trailer] := by
  simp [longClose, beforeTrailer]

theorem length_beforeTrailer (body : List Byte) (order : CrcOrder) : (beforeTrailer body order).length = body.length + 3 := by
  simp [beforeTrailer, length_crcPair]

theorem getElem?_longClose {body : List Byte} {order : CrcOrder} {t : Nat} (ht : t < body.length + 3) :
    (longClose body order)[t]? = (beforeTrailer body order)[t]? := by
  rw [longClose_eq_append_trailer, List.getElem?_append_left (by rwa [length_beforeTrailer])]

theorem hasLongShape_longClose {body : List Byte} (hbody : 3 ≤ body.length) (order : CrcOrder) :
    hasLongShape (longClose body order) = true := by
  rw [longClose_eq_append_trailer, hasLongShape_append, length_beforeTrailer]
  exact ⟨by omega, by simp [beforeTrailer, Config.etx]⟩

/-- A built frame under the side conditions of R201 comes back whole. -/
theorem feed_longClose {body : List Byte} {order : CrcOrder} {s : State} (hs : unbounded s) (hempty : s.rxBuf = [])
    (hbody : 3 ≤ body.length)
    (hlong : ∀ t, 6 ≤ t → t < body.length + 3 →
      ¬ ((longClose body order)[t]? = some 0xFA#8 ∧ (longClose body order)[t - 1]? = some 0x03#8))
    (hshort : ¬ ((longClose body order)[0]? = some 0x50#8 ∧ (longClose body order)[2]? = some 0xFA#8)) :
    feed (longClose body order) s = .next { s with frameQ := s.frameQ ++ [⟨.long, longClose body order⟩], rxBuf := [] } := by
  have hbefore : noFrameIn (beforeTrailer body order) = true := by
    refine noFrameIn_of_side_conditions (fun t hle ht => ?_) ?_
    · rw [length_beforeTrailer] at ht
      rw [← getElem?_longClose ht, ← getElem?_longClose (by omega)]
      exact hlong t hle ht
    · rwa [← getElem?_longClose (by omega), ← getElem?_longClose (by omega)]
  have hshape := hasLongShape_longClose hbody order
  rw [longClose_eq_append_trailer] at hshape ⊢
  exact feed_long_frame hs hempty hbefore hshape

/-- The scan of R201's counterexample: the BCD byte `03` and the CRC byte `FA` read as the end of a shorter frame. -/
theorem scanBuffer_counterexample :
    scanBuffer (encodePreset 0x50#8 16803 .loHi) =
      ([⟨.long, [0x50#8, 0x30#8, 0x03#8, 0x04#8, 0x00#8, 0x01#8, 0x68#8, 0x03#8, 0xFA#8]⟩], [0xCD#8, 0x03#8, 0xFA#8]) := by
  decide +kernel

/-- Settles O13: under the side conditions the frame is cut at its own trailer and read back into its fields; the counterexample is computed through the scan of
its bytes. -/
theorem encodedFrameComesBackWhole : Obligations.EncodedFrameComesBackWhole := by
  refine ⟨fun body order s hs hempty hlen hlong hshort => ?_, by decide +kernel, ?_, by decide +kernel⟩
  · rw [length_longClose] at hlen hlong
    have hbody : 3 ≤ body.length := by omega
    obtain ⟨command, f, hwf, hfields, hbytes, hcrc⟩ := longClose_eq_longFrameBytes hbody order
    exact ⟨feed_longClose hs hempty hbody hlong hshort, command, f, hbytes ▸ splitLong_longFrameBytes command f hwf, hfields, hbytes, hcrc⟩
  · rw [feed_eq_afterScan _ ⟨rfl, rfl, rfl⟩ (by rfl), show State.reset.rxBuf = [] from rfl, List.nil_append, scanBuffer_counterexample]
    rfl

end Sys2Proof.Proofs.Encoder

/-! # The frames that leave

Every element of `tx` is one of the frames that the encoder builds (R200). The operations that send give `send` a built frame; all the others leave `tx` as it
is; and a `Host` step runs the row of its operation (R350). -/

namespace Sys2Proof.Proofs.Sent

open Sys2Proof Sys2Proof.Machine Sys2Proof.Laws Sys2Proof.Proofs.Stops Sys2Proof.Proofs.Invariant Sys2Proof.Proofs.Writers

/-! ## The built frames (R200) -/

theorem outboundFrame_minPoll : outboundFrame minPoll := .inl rfl

theorem outboundFrame_minAck : outboundFrame minAck := .inr (.inl rfl)

theorem outboundFrame_encodeGeneric (addr nozzle code : Byte) (order : CrcOrder) : outboundFrame (encodeGeneric addr nozzle code order) :=
  .inr (.inr (.inl ⟨addr, nozzle, code, order, rfl⟩))

theorem outboundFrame_encodePreset (addr : Byte) (volumeCl : Int) (order : CrcOrder) : outboundFrame (encodePreset addr volumeCl order) :=
  .inr (.inr (.inr (.inl ⟨addr, volumeCl, order, rfl⟩)))

theorem outboundFrame_encodeTotalsRequest (addr nozzle : Byte) (order : CrcOrder) : outboundFrame (encodeTotalsRequest addr nozzle order) :=
  .inr (.inr (.inr (.inr ⟨addr, nozzle, order, rfl⟩)))

/-! ## What leaves `tx` as it is -/

@[simp] theorem handshakeTouch_tx (now : Nat) (s : State) : (handshakeTouch now s).tx = s.tx := by
  cases hok : s.hs.ok with
  | false => rw [handshakeTouch_first now hok, emit_tx]
  | true => rw [handshakeTouch_ok now hok]

@[simp] theorem settleSale_tx (s : State) : (settleSale s).tx = s.tx := by
  rcases settleSale_cases s with ⟨-, -, h⟩ | ⟨-, h⟩ | ⟨-, -, h⟩ <;> rw [h] <;> rfl

@[simp] theorem closeWindow_tx (s : State) : (closeWindow s).tx = s.tx := settleSale_tx s

@[simp] theorem onStatus_tx (prev new : PumpState) (s : State) : (onStatus prev new s).tx = s.tx := by
  rcases onStatus_cases prev new s with ⟨-, -, h⟩ | ⟨-, -, h⟩ | ⟨-, -, h⟩ | ⟨-, -, h⟩ | ⟨-, h⟩ <;> rw [h]
  · exact openWindow_tx s
  · split <;> simp
  · split <;> simp

@[simp] theorem setState_tx (new : PumpState) (s : State) : (setState new s).tx = s.tx := by
  cases htracker : s.cfg.trackerPresent with
  | false => rw [setState_noTracker htracker, emit_tx]
  | true => rw [setState_tracker htracker, onStatus_tx, emit_tx]

@[simp] theorem rememberSample_tx (volumeCl amountC : Nat) (s : State) : (rememberSample volumeCl amountC s).tx = s.tx := by
  unfold rememberSample
  split <;> rfl

theorem receiveByte_tx {b : Byte} {s t : State} (ht : receiveByte b s = .next t) : t.tx = s.tx := by
  rcases receiveByte_next_cases ht with ⟨-, rfl⟩ | ⟨_, -, rfl⟩ <;> rfl

/-! ## Only built frames are sent -/

/-- Every element of the transmit stream is a frame that the encoder builds (R200). -/
def OnlyBuiltSent (s : State) : Prop := ∀ bytes ∈ s.tx, outboundFrame bytes

theorem onlyBuiltSent_of_tx_eq {s t : State} (h : OnlyBuiltSent s) (htx : t.tx = s.tx := by rfl) : OnlyBuiltSent t :=
  fun bytes hmem => h bytes (htx ▸ hmem)

theorem onlyBuiltSent_of_tx_append {s t : State} {frame : List Byte} (h : OnlyBuiltSent s) (hframe : outboundFrame frame)
    (htx : t.tx = s.tx ++ [frame] := by rfl) : OnlyBuiltSent t := by
  intro bytes hmem
  rw [htx] at hmem
  rcases List.mem_append.1 hmem with hold | hnew
  · exact h bytes hold
  · exact List.mem_singleton.1 hnew ▸ hframe

theorem onlyBuiltSent_send {frame : List Byte} {s : State} (h : OnlyBuiltSent s) (hframe : outboundFrame frame) :
    OnlyBuiltSent (send frame s).2 := by
  rcases send_cases frame s with ⟨-, hsend⟩ | ⟨-, hsend⟩ <;> rw [hsend]
  · exact onlyBuiltSent_of_tx_append h hframe
  · exact onlyBuiltSent_of_tx_eq h

theorem onlyBuiltSent_issueGeneric (code : Byte) {s : State} (h : OnlyBuiltSent s) : OnlyBuiltSent (issueGeneric code s).2 := by
  rcases issueGeneric_cases code s with ⟨-, hi⟩ | ⟨-, -, hi⟩ | ⟨-, -, -, hi⟩ | ⟨-, -, -, hi⟩ <;> rw [hi]
  case inr.inr.inl => exact onlyBuiltSent_of_tx_append h (outboundFrame_encodeGeneric _ _ _ _)
  all_goals exact onlyBuiltSent_of_tx_eq h

theorem onlyBuiltSent_busy {s : State} (h : OnlyBuiltSent s) : OnlyBuiltSent (busy s) := by
  rcases busy_cases s with ⟨-, hb⟩ | ⟨-, -, hb⟩ | ⟨-, -, hb⟩ <;> rw [hb]
  · exact h
  · exact onlyBuiltSent_issueGeneric _ h
  · exact onlyBuiltSent_of_tx_append h (outboundFrame_encodeGeneric _ _ _ _)

theorem onlyBuiltSent_sample (volumeCl amountC : Nat) {s : State} (h : OnlyBuiltSent s) : OnlyBuiltSent (sample volumeCl amountC s) := by
  have hremember : OnlyBuiltSent (rememberSample volumeCl amountC s) := onlyBuiltSent_of_tx_eq h (rememberSample_tx _ _ s)
  unfold sample
  rcases autoStop_cases volumeCl (rememberSample volumeCl amountC s) with ⟨-, ha⟩ | ⟨-, -, ha⟩ | ⟨-, -, ha⟩ <;> rw [ha]
  · exact hremember
  · exact onlyBuiltSent_issueGeneric _ hremember
  · exact onlyBuiltSent_of_tx_append hremember (outboundFrame_encodeGeneric _ _ _ _)

/-- What is received makes the block send acknowledges, AUTHORIZE and STOP alone. -/
theorem keptByDecoding_onlyBuiltSent : KeptByDecoding OnlyBuiltSent where
  emit _ _ _ h := onlyBuiltSent_of_tx_eq h
  ack _ h := onlyBuiltSent_send h outboundFrame_minAck
  touch now s h := onlyBuiltSent_of_tx_eq h (handshakeTouch_tx now s)
  setState new s h := onlyBuiltSent_of_tx_eq h (setState_tx new s)
  sample v a _ _ h := onlyBuiltSent_sample v a h
  nozzle _ _ _ _ h := onlyBuiltSent_of_tx_eq h
  busy _ h := onlyBuiltSent_busy h

/-! ## The host operations -/

theorem onlyBuiltSent_sendPreset (volumeCl : Int) {s : State} (h : OnlyBuiltSent s) : OnlyBuiltSent (sendPreset volumeCl s) := by
  have hsent : OnlyBuiltSent (send (encodePreset s.deviceAddr volumeCl s.crcOrder) s).2 :=
    onlyBuiltSent_send h (outboundFrame_encodePreset _ _ _)
  unfold sendPreset
  dsimp only
  split
  · exact onlyBuiltSent_of_tx_eq hsent
  · exact hsent

theorem onlyBuiltSent_execHostSendPresetVolume {volumeCl : Int} {s t : State} (h : OnlyBuiltSent s)
    (ht : execHostSendPresetVolume volumeCl s = .next t) : OnlyBuiltSent t := by
  unfold execHostSendPresetVolume at ht
  split_ifs at ht <;> cases ht
  · exact onlyBuiltSent_of_tx_eq h
  · exact onlyBuiltSent_of_tx_eq h
  · exact onlyBuiltSent_sendPreset volumeCl h

theorem onlyBuiltSent_execHostSendTotalsRequest {s t : State} (h : OnlyBuiltSent s) (ht : execHostSendTotalsRequest s = .next t) :
    OnlyBuiltSent t := by
  unfold execHostSendTotalsRequest at ht
  split_ifs at ht <;> cases ht
  · exact onlyBuiltSent_of_tx_eq h
  · exact onlyBuiltSent_send h (outboundFrame_encodeTotalsRequest _ _ _)

theorem execHostIntentHint_tx {state : PumpState} {s t : State} (ht : execHostIntentHint state s = .next t) : t.tx = s.tx := by
  unfold execHostIntentHint at ht
  split_ifs at ht <;> cases ht <;> rfl

/-! ## The steps -/

theorem onlyBuiltSent_stepDispatch {now : Nat} {s t : State} (h : OnlyBuiltSent s) (ht : exec (.stepDispatch now) s = .next t) :
    OnlyBuiltSent t := by
  cases hq : s.frameQ with
  | nil =>
    cases (execStepDispatch_nil now hq).symm.trans ht
    exact h
  | cons q rest => exact keptByDecoding_onlyBuiltSent.dispatch hq (onlyBuiltSent_of_tx_eq h) ht

theorem onlyBuiltSent_stepTimerFire {s t : State} (h : OnlyBuiltSent s) (ht : execStepTimerFire s = .next t) : OnlyBuiltSent t := by
  unfold execStepTimerFire at ht
  split_ifs at ht <;> cases ht
  · exact onlyBuiltSent_send h outboundFrame_minPoll
  · exact h

/-! ## The obligation -/

/-- By the frame that the row sends, if it sends one; the inbound rows by the induction of `KeptByDecoding`. -/
theorem onlyBuiltSent_exec_of_ne_stepHost {i : Instr} {s t : State} (hi : ∀ op, i ≠ .stepHost op) (h : OnlyBuiltSent s)
    (ht : exec i s = .next t) : OnlyBuiltSent t := by
  cases i
  case txGeneric =>
    cases ht
    exact onlyBuiltSent_send h (outboundFrame_encodeGeneric _ _ _ _)
  case txPresetVolume =>
    cases ht
    exact onlyBuiltSent_send h (outboundFrame_encodePreset _ _ _)
  case txTotalsRequest =>
    cases ht
    exact onlyBuiltSent_send h (outboundFrame_encodeTotalsRequest _ _ _)
  case txMinPoll | hostSendMinPoll =>
    cases ht
    exact onlyBuiltSent_send h outboundFrame_minPoll
  case txMinAck | hostSendMinAck =>
    cases ht
    exact onlyBuiltSent_send h outboundFrame_minAck
  case hostSendGeneric code =>
    cases ht
    exact onlyBuiltSent_issueGeneric code h
  case hostSendPresetVolume => exact onlyBuiltSent_execHostSendPresetVolume h ht
  case hostSendTotalsRequest => exact onlyBuiltSent_execHostSendTotalsRequest h ht
  case hostIntentHint => exact onlyBuiltSent_of_tx_eq h (execHostIntentHint_tx ht)
  case hostSetCrcOrder | hostSetAutoAck | hostSetAutoPoll | hostTransportOpen | hostTransportClose | stepTransportFault =>
    cases ht
    exact onlyBuiltSent_of_tx_eq h
  case stepRxByte => exact onlyBuiltSent_of_tx_eq h (receiveByte_tx ht)
  case stepDispatch => exact onlyBuiltSent_stepDispatch h ht
  case stepTimerFire => exact onlyBuiltSent_stepTimerFire h ht
  case stepSessionReset =>
    cases ht
    exact nofun
  case stepHost op => exact absurd rfl (hi op)
  all_goals exact keptByDecoding_onlyBuiltSent.exec (by rfl) h ht

theorem hostRow_ne_stepHost (op op' : HostOp) : hostRow op ≠ .stepHost op' := by
  cases op <;> exact nofun

/-- A `Host` step sends what the row of its operation sends (R350). -/
theorem onlyBuiltSent_exec {i : Instr} {s t : State} (h : OnlyBuiltSent s) (ht : exec i s = .next t) : OnlyBuiltSent t := by
  by_cases hi : ∃ op, i = .stepHost op
  · obtain ⟨op, rfl⟩ := hi
    have hrow : exec (hostRow op) s = .next t := (exec_hostRow op s).trans ht
    exact onlyBuiltSent_exec_of_ne_stepHost (hostRow_ne_stepHost op) h hrow
  · exact onlyBuiltSent_exec_of_ne_stepHost (not_exists.1 hi) h ht

/-- Settles O56: nothing is sent at reset, and every instruction sends built frames alone. -/
theorem onlyBuiltFramesAreSent : Obligations.OnlyBuiltFramesAreSent :=
  ⟨nofun, fun _ _ _ ht h => onlyBuiltSent_exec h ht⟩

end Sys2Proof.Proofs.Sent

/-! # The response decoder

What `Dispatch` makes of a queued frame (R210, R211), the Short frames (R212 to R214), the steps that every Long frame shares (R210, R296, R175) and its handlers
(R215 to R224), the walk over a composite payload (R225) and the effects of records and status codes (R231 to R237). -/

namespace Sys2Proof.Proofs.Responses

open Sys2Proof Sys2Proof.Machine Sys2Proof.Laws Sys2Proof.Proofs.Stops Sys2Proof.Proofs.Invariant Sys2Proof.Proofs.Codec
  Sys2Proof.Proofs.Encoder

/-! ## Reports in a row -/

theorem emit_emit (e e' : Event) (s : State) : emit e' (emit e s) = { s with evt := s.evt ++ [e, e'] } := by
  simp [emit]

/-- Reports made along a list are appended in its order. -/
theorem foldl_emit {α : Type} (e : α → Event) (l : List α) (s : State) :
    l.foldl (fun s x => emit (e x) s) s = { s with evt := s.evt ++ l.map e } := by
  induction l generalizing s with
  | nil => simp
  | cons x xs ih =>
    rw [List.foldl_cons, ih]
    simp [emit]

/-- A report made under a condition. -/
theorem warnIf_ite (c : Prop) [Decidable c] (w : Warning) (s : State) :
    warnIf (if c then some w else none) s = { s with evt := s.evt ++ if c then [.decodeWarning w] else [] } := by
  split
  · rfl
  · simp

/-! ## The generic command path (R351, R352) -/

theorem gateAdmits_generic_eq_false_iff {code : Byte} {s : State} :
    gateAdmits s (.generic code) = false ↔ s.hs.ok = false ∧ code ∉ s.cfg.readQueryCodes := by
  simp [gateAdmits]

theorem resumeRefused_eq_true_iff {code : Byte} {s : State} :
    resumeRefused s code = true ↔ s.cfg.codeResume = some code ∧ s.nozzleOut ≠ some true := by
  simp [resumeRefused]

/-- A command that is marked when it went out: both refusals and a failed send only report. -/
theorem issueGeneric_then_mark (code : Byte) (mark : State → State) (s : State) :
    (if (issueGeneric code s).1 then mark (issueGeneric code s).2 else (issueGeneric code s).2) =
      if s.hs.ok = false ∧ code ∉ s.cfg.readQueryCodes then emit (.commandRefused .noHandshake) s
      else if s.cfg.codeResume = some code ∧ s.nozzleOut ≠ some true then emit (.commandRefused .nozzleStowed) s
      else if s.transportOpen = true ∧ s.txFaulted = false then
        mark { s with tx := s.tx ++ [encodeGeneric s.deviceAddr s.nozzle code s.crcOrder] }
      else emit .sendFailed s := by
  simp only [← gateAdmits_generic_eq_false_iff, ← resumeRefused_eq_true_iff, ← canSend_eq_true_iff]
  rcases issueGeneric_cases code s with ⟨hg, h⟩ | ⟨hg, hr, h⟩ | ⟨hg, hr, hc, h⟩ | ⟨hg, hr, hc, h⟩
  · simp [h, hg]
  · simp [h, hg, hr]
  · simp [h, hg, hr, hc]
  · simp [h, hg, hr, hc]

theorem issueGeneric_tx_of_not_sent {code : Byte} {s : State} (h : (issueGeneric code s).1 = false) :
    (issueGeneric code s).2.tx = s.tx := by
  rcases issueGeneric_cases code s with ⟨-, hi⟩ | ⟨-, -, hi⟩ | ⟨-, -, -, hi⟩ | ⟨-, -, -, hi⟩ <;> rw [hi] at h ⊢
  case inr.inr.inl => exact absurd h nofun
  all_goals rfl

/-! ## Short frames (R212 to R214) -/

theorem exec_rxPollEcho (s : State) : exec .rxPollEcho s = receiveShort 0x20#8 (fun u => u) s := rfl

theorem exec_rxAckEcho (s : State) : exec .rxAckEcho s = receiveShort 0xC0#8 (fun u => u) s := rfl

theorem exec_rxBusy (s : State) : exec .rxBusy s = receiveShort 0x70#8 busy s := rfl

theorem exec_rxUnknownShort (code : Byte) (s : State) :
    exec (.rxUnknownShort code) s = receiveShort code (emit (.decodeWarning (.unknownShortCode code))) s := rfl

/-- Settles O27: after the trace, the handler of an echo does nothing and that of an unknown code warns. -/
theorem echoesAndUnknownShortFramesAreTraced : Obligations.EchoesAndUnknownShortFramesAreTraced := by
  intro s ho
  refine ⟨?_, ?_, fun code => ?_⟩
  · exact (exec_rxPollEcho s).trans (receiveShort_open _ ho)
  · exact (exec_rxAckEcho s).trans (receiveShort_open _ ho)
  · rw [exec_rxUnknownShort, receiveShort_open _ ho, emit_emit]
    rfl

/-- The state after the trace of a Busy. -/
def busyTraced (s : State) : State := emit (.frameTrace [0x50#8, 0x70#8, 0xFA#8] true) s

theorem exec_rxBusy_open {s : State} (ho : s.transportOpen = true) : exec .rxBusy s = .next (busy (busyTraced s)) :=
  (exec_rxBusy s).trans (receiveShort_open busy ho)

theorem busy_of_not_pending {s : State} (h : s.sale.authorizePending = false) : busy s = s := by
  simp [busy, h]

/-- A pending AUTHORIZE passes the generic command path and is pending no more when it went out (R213). -/
theorem busy_of_pending {s : State} (h : s.sale.authorizePending = true) :
    busy s =
      if s.hs.ok = false ∧ s.cfg.codeAuthorize ∉ s.cfg.readQueryCodes then emit (.commandRefused .noHandshake) s
      else if s.cfg.codeResume = some s.cfg.codeAuthorize ∧ s.nozzleOut ≠ some true then emit (.commandRefused .nozzleStowed) s
      else if s.transportOpen = true ∧ s.txFaulted = false then
        { s with
          tx := s.tx ++ [encodeGeneric s.deviceAddr s.nozzle s.cfg.codeAuthorize s.crcOrder]
          sale := { s.sale with authorizePending := false } }
      else emit .sendFailed s := by
  rw [busy, if_pos h]
  exact issueGeneric_then_mark s.cfg.codeAuthorize (fun t => { t with sale := { t.sale with authorizePending := false } }) s

/-- A Busy that sends leaves nothing pending. -/
theorem busy_sends_once (s : State) : (busy s).tx = s.tx ∨ (busy s).sale.authorizePending = false := by
  rcases busy_cases s with ⟨-, h⟩ | ⟨-, hnot, h⟩ | ⟨-, -, h⟩ <;> rw [h]
  · exact .inl rfl
  · exact .inl (issueGeneric_tx_of_not_sent hnot)
  · exact .inr rfl

/-- Settles O28: the trace, then `busy` by its flag; a Busy that sent has cleared the flag, so the next one only traces. -/
theorem busySendsDeferredAuthorizeOnce : Obligations.BusySendsDeferredAuthorizeOnce := by
  intro s ho
  refine ⟨fun hidle => ?_, fun hpending => ?_, fun t u ht hu hsent => ?_⟩
  · rw [exec_rxBusy_open ho, busy_of_not_pending (s := busyTraced s) hidle]
    rfl
  · rw [exec_rxBusy_open ho, busy_of_pending (s := busyTraced s) hpending]
    simp only [busyTraced, emit_emit, emit_hs, emit_cfg, emit_nozzleOut, emit_transportOpen, emit_txFaulted, ho, true_and]
    rfl
  · cases (exec_rxBusy_open ho).symm.trans ht
    have hdone : (busy (busyTraced s)).sale.authorizePending = false := (busy_sends_once (busyTraced s)).resolve_left hsent
    have hopen : (busy (busyTraced s)).transportOpen = true := (continues_busy _).transportOpen.trans ho
    cases (exec_rxBusy_open hopen).symm.trans hu
    rw [busy_of_not_pending (s := busyTraced _) hdone]
    rfl

/-! ## A closed transport (R211) -/

/-- `i` is the row of a Short frame with code `code`: in every state it runs a handler of its own after the trace. -/
def IsShortRow (code : Byte) (i : Instr) : Prop :=
  ∃ handler : State → State, ∀ s, exec i s = receiveShort code handler s

theorem exec_of_closed {i : Instr} {s : State} (hrow : (∃ c f, IsLongRow c f i) ∨ ∃ code, IsShortRow code i)
    (hclosed : s.transportOpen = false) : exec i s = .next (dropClosed s) := by
  rcases hrow with ⟨c, f, handler, h⟩ | ⟨code, handler, h⟩
  · rw [h, receiveLong_closed handler hclosed]
  · rw [h, receiveShort_closed handler hclosed]

/-- Settles O29: the 24 Long rows and the 4 Short rows test the transport before their handlers, and so does a `Dispatch` before it decodes. -/
theorem closedTransportDropsFrames : Obligations.ClosedTransportDropsFrames := by
  intro s now f command code hclosed
  refine ⟨fun i hi => ?_, fun q rest hq => exec_stepDispatch_closed now hq hclosed⟩
  refine exec_of_closed ?_ hclosed
  iterate 24
    obtain rfl | hi := List.mem_cons.1 hi
    · exact .inl ⟨_, f, _, fun _ => by simp only [exec]; rfl⟩
  fin_cases hi
  · exact .inr ⟨_, _, exec_rxPollEcho⟩
  · exact .inr ⟨_, _, exec_rxAckEcho⟩
  · exact .inr ⟨_, _, exec_rxBusy⟩
  · exact .inr ⟨_, _, exec_rxUnknownShort code⟩

/-! ## The Dispatch step (R210) -/

/-- What the decoder reads from a queued frame is the row of a command byte or of a Short code (R88, R93). -/
theorem decodeFrame_ok_cases {now : Nat} {shape : Shape} {bytes : List Byte} {i : Instr} (h : decodeFrame now shape bytes = .ok i) :
    (∃ c f, i = longRow now c f) ∨ ∃ code, i = shortRow code := by
  cases shape with
  | long =>
    obtain ⟨cf, hrow⟩ := exists_of_map_eq_ok h
    exact .inl ⟨_, _, hrow.symm⟩
  | short =>
    simp only [decodeFrame, decodeRxShort] at h
    split at h
    case h_1 lead code sf =>
      split_ifs at h
      exact .inr ⟨code, (Except.ok.inj h).symm⟩
    case h_2 => cases h

theorem runFrame_longRow_eq_exec (now : Nat) (c : Byte) (f : LongFrame) (s : State) :
    runFrame (longRow now c f) s = exec (longRow now c f) s := by
  unfold longRow
  split <;> rfl

theorem runFrame_shortRow_eq_exec (code : Byte) (s : State) : runFrame (shortRow code) s = exec (shortRow code) s := by
  unfold shortRow
  split <;> rfl

/-- Settles O43: the decoder reads a Long or a Short row, and `runFrame` gives each of them the meaning that `exec` gives it. -/
theorem dispatchRunsDecodedFrame : Obligations.DispatchRunsDecodedFrame := by
  refine ⟨fun s now q rest i ho hq hd => ?_, fun s now hq => execStepDispatch_nil now hq⟩
  rw [exec_stepDispatch_open hq ho hd]
  rcases decodeFrame_ok_cases hd with ⟨c, f, rfl⟩ | ⟨code, rfl⟩
  · exact runFrame_longRow_eq_exec now c f _
  · exact runFrame_shortRow_eq_exec code _

/-! ## What every accepted Long frame gets (R210, R296, R175) -/

/-- A send by its two streams: the frame where the guard admits it, the report where it does not (R199). -/
theorem send_snd_eq_streams (bytes : List Byte) (s : State) :
    (send bytes s).2 =
      { s with
        tx := s.tx ++ if s.transportOpen = true ∧ s.txFaulted = false then [bytes] else []
        evt := s.evt ++ if ¬ (s.transportOpen = true ∧ s.txFaulted = false) then [.sendFailed] else [] } := by
  rw [send_snd_eq_ite]
  by_cases hcan : s.transportOpen = true ∧ s.txFaulted = false
  · simp [hcan]
  · simp [hcan]

/-- The auto-acknowledge by its two streams (R296). -/
theorem autoAcknowledge_eq_streams (s : State) :
    autoAcknowledge s =
      { s with
        tx := s.tx ++ if s.autoAck = true ∧ s.transportOpen = true ∧ s.txFaulted = false then [minAck] else []
        evt := s.evt ++ if s.autoAck = true ∧ ¬ (s.transportOpen = true ∧ s.txFaulted = false) then [.sendFailed] else [] } := by
  rcases autoAcknowledge_cases s with ⟨hauto, h⟩ | ⟨hauto, h⟩ <;> rw [h]
  · rw [if_neg (by simp [hauto]), if_neg (by simp [hauto]), List.append_nil, List.append_nil]
  · simp only [send_snd_eq_streams, hauto, true_and]

theorem lengthCheckSuppressed_eq_true_iff {command : Byte} :
    lengthCheckSuppressed command = true ↔ 0x30 ≤ command.toNat ∧ command.toNat ≤ 0x3F := by
  simp [lengthCheckSuppressed]

/-- The length check by the payload's second byte, which declares how many follow it (R175). -/
theorem lengthWarning_eq_ite (command : Byte) (payload : List Byte) :
    lengthWarning command payload =
      if 2 ≤ payload.length ∧ ¬ (0x30 ≤ command.toNat ∧ command.toNat ≤ 0x3F) ∧
          (payload.getD 1 0x00#8).toNat ≠ payload.length - 2 then
        some (.lengthMismatch (payload.getD 1 0x00#8).toNat (payload.length - 2))
      else none := by
  simp only [← lengthCheckSuppressed_eq_true_iff]
  match payload with
  | [] => rfl
  | [_] => rfl
  | _ :: declared :: rest =>
    cases hsup : lengthCheckSuppressed command <;> simp [lengthWarning, hsup]

theorem acceptLong_eq_streams (command : Byte) (f : LongFrame) (s : State) :
    acceptLong command f s =
      { s with
        tx := s.tx ++ (if s.autoAck = true ∧ s.transportOpen = true ∧ s.txFaulted = false then [minAck] else [])
        evt := s.evt ++ [.frameTrace (longFrameBytes command f) true] ++
          (if s.autoAck = true ∧ ¬ (s.transportOpen = true ∧ s.txFaulted = false) then [.sendFailed] else []) ++
          (if 2 ≤ f.payload.length ∧ ¬ (0x30 ≤ command.toNat ∧ command.toNat ≤ 0x3F) ∧
              (f.payload.getD 1 0x00#8).toNat ≠ f.payload.length - 2 then
            [.decodeWarning (.lengthMismatch (f.payload.getD 1 0x00#8).toNat (f.payload.length - 2))]
          else []) } := by
  rw [acceptLong, lengthWarning_eq_ite, warnIf_ite, autoAcknowledge_eq_streams]
  rfl

theorem exec_rxUnknownCommand (command : Byte) (f : LongFrame) (s : State) :
    exec (.rxUnknownCommand command f) s = receiveLong command f (fun u => .next (emit (.decodeWarning (.unknownCommand command)) u)) s :=
  rfl

/-- Settles O31: the three parts of `acceptLong` each append to the streams; the check of R171 is an equality of lists; the unknown command's handler warns. -/
theorem acceptedLongFrameIsTracedAcknowledgedChecked : Obligations.AcceptedLongFrameIsTracedAcknowledgedChecked := by
  refine ⟨acceptLong_eq_streams, fun command f order => beq_eq_decide _ _, fun command f s ho hc => ?_⟩
  rw [exec_rxUnknownCommand, receiveLong_accepted _ ho hc]
  rfl

/-! ## Status frames (R215 to R217) -/

/-- Settles O32: the three rows give the payload to `statusReply` under their table; it is one byte or it is not. -/
theorem statusFramesApplyOneByteStatus : Obligations.StatusFramesApplyOneByteStatus := by
  intro s now f ho p hp hc
  have hrow : exec p.2.2 s = receiveLong p.1 f (fun u => .next (statusReply f.payload p.2.1 now u)) s := by
    fin_cases hp <;> rfl
  rw [hrow, receiveLong_accepted _ ho hc]
  refine ⟨fun code hcode => ?_, fun hlen => ?_⟩
  · rw [hcode]
    rfl
  · rcases statusReply_cases f.payload p.2.1 now (acceptLong p.1 f s) with ⟨code, hcode, -⟩ | ⟨-, h⟩
    · exact absurd (congrArg List.length hcode) hlen
    · rw [h]
      rfl

/-! ## Status codes (R237, R264 to R266, R281) -/

/-- A touch holds the handshake, stamps it, and announces it once (R281). -/
theorem handshakeTouch_eq (now : Nat) (s : State) :
    handshakeTouch now s =
      { s with
        hs := ⟨true, if s.hs.ok then s.hs.everOk else true, some now⟩
        evt := s.evt ++ if s.hs.ok then [] else [.handshakeAcquired] } := by
  cases hok : s.hs.ok with
  | false => simp [handshakeTouch_first now hok, emit]
  | true => simp [handshakeTouch_ok now hok, hok]

theorem statusItem_unmapped {code : Byte} {table : StatusTable} (now : Nat) {s : State} (h : mapStatus s.cfg code table = none) :
    statusItem code table now s = emit (.decodeWarning (.unknownStatus code)) (handshakeTouch now s) :=
  statusEvent_unmapped ((congrArg (mapStatus · code table) (continues_handshakeTouch now s).cfg).trans h)

theorem statusItem_mapped {code : Byte} {table : StatusTable} {new : PumpState} (now : Nat) {s : State}
    (h : mapStatus s.cfg code table = some new) : statusItem code table now s = setState new (handshakeTouch now s) :=
  statusEvent_mapped ((congrArg (mapStatus · code table) (continues_handshakeTouch now s).cfg).trans h)

/-- Settles O34: each row is the status item of its code and table; the item is the touch, then a warning or the new state. -/
theorem statusRowsTouchHandshakeThenSetState : Obligations.StatusRowsTouchHandshakeThenSetState := by
  intro s now code p hp
  refine ⟨by fin_cases hp <;> rfl, ?_⟩
  cases hmap : mapStatus s.cfg p.1 p.2.1 with
  | none =>
    rw [statusItem_unmapped now hmap, handshakeTouch_eq]
    rfl
  | some new =>
    rw [statusItem_mapped now hmap, handshakeTouch_eq]
    rfl

/-! ## Status, price and totals records (R231, R233 to R235) -/

theorem recordStatus_of_length_ne {now : Nat} {data : List Byte} {s : State} (h : data.length ≠ 1) :
    recordStatus now data s = emit (.decodeWarning (.badSubRecordShape 0x01#8 data.length)) s := by
  match data with
  | [] => rfl
  | [_] => exact absurd rfl h
  | _ :: _ :: _ => rfl

/-- Settles O39: a status record by its length; an unknown `trans` only warns. -/
theorem statusAndUnknownSubRecords : Obligations.StatusAndUnknownSubRecords := by
  refine fun s now o t data => ⟨fun code hcode => ?_, fun hlen => ?_, rfl⟩
  · rw [hcode]
    rfl
  · exact congrArg _ (recordStatus_of_length_ne hlen)

/-- Three bytes read most significant pair first (R144). -/
theorem decode3_bytes (a b c : Byte) : decode3 [a, b, c] = (bcdPair a * 100 + bcdPair b) * 100 + bcdPair c := by
  simp [decode3, decodeBcd]

/-- The fields of a totals record (R234): a nozzle byte and three runs of five. -/
theorem totalsItem_fields (n : Byte) {a b c : List Byte} (ha : a.length = 5) (hb : b.length = 5) (hc : c.length = 5) :
    totalsItem (n :: (a ++ b ++ c)) = .totals n (decode5 a) (decode5 b) (decode5 c) := by
  have hafter : (a ++ b ++ c).drop 10 = c := List.drop_left' (by simp [ha, hb])
  have hmiddle : (a ++ b ++ c).drop 5 = b ++ c := by rw [List.append_assoc, List.drop_left' ha]
  have hfirst : (a ++ b ++ c).take 5 = a := by rw [List.append_assoc, List.take_left' ha]
  simp only [totalsItem, dataSlice, List.drop_succ_cons, List.drop_zero, List.getD_cons_zero, hafter, hmiddle, hfirst, List.take_left' hb,
    List.take_of_length_le hc.le]

/-- Settles O40: a record of the right length yields its item, whose fields are the slices of its data; of another length it warns. -/
theorem nozzlePriceAndTotalsSubRecords : Obligations.NozzlePriceAndTotalsSubRecords := by
  refine fun s => ⟨fun p0 p1 p2 st => ?_, fun data hlen => ?_, fun n a b c ha hb hc => ?_, fun data hlen => ?_⟩
  · rw [← decode3_bytes]
    rfl
  · exact congrArg _ (if_neg hlen)
  · have hlen : (n :: (a ++ b ++ c)).length = 16 := by simp [ha, hb, hc]
    refine congrArg _ ((if_pos hlen).trans ?_)
    rw [totalsItem_fields n ha hb hc]
    rfl
  · exact congrArg _ (if_neg hlen)

/-! ## Volume records (R232, R316 to R318) -/

/-- `decode4` reads four bytes, whatever follows them. -/
theorem decode4_take_four (d : List Byte) : decode4 (d.take 4) = decode4 d := by
  simp [decode4, List.take_take]

theorem volumeItem_eq (data : List Byte) : volumeItem data = .volume (decode4 (data.take 4)) (decode4 (data.drop 4)) := by
  simp [volumeItem, dataSlice, decode4_take_four]

/-- The state after a volume report and its memory, before the preset watch (R232, R316). -/
def sampleRemembered (v a : Nat) (s : State) : State :=
  { s with
    evt := s.evt ++ [.volumeSample v a]
    sale := if s.cfg.trackerPresent = true ∧ s.sale.active = true then
        { s.sale with hasVolumeSample := true, lastVolumeCl := v, lastAmountC := a }
      else s.sale }

theorem applyVolume_noTracker (v a : Nat) {s : State} (h : s.cfg.trackerPresent = false) : applyVolume v a s = sampleRemembered v a s := by
  simp [applyVolume, sampleRemembered, emit, h]

theorem applyVolume_tracker (v a : Nat) {s : State} (h : s.cfg.trackerPresent = true) :
    applyVolume v a s = autoStop v (sampleRemembered v a s) := by
  have hmemory : rememberSample v a (emit (.volumeSample v a) s) = sampleRemembered v a s := by
    cases hactive : s.sale.active <;> simp [rememberSample, sampleRemembered, emit, h, hactive]
  simp [applyVolume, sample, h, hmemory]

/-- The memory of a sample does not touch what the watch reads. -/
theorem stopDue_sampleRemembered (v a w : Nat) (s : State) : stopDue (sampleRemembered v a s) w = stopDue s w := by
  unfold stopDue sampleRemembered
  split_ifs <;> rfl

theorem stopDue_eq_true_iff {s : State} {v : Nat} :
    stopDue s v = true ↔ ∃ target, s.sale.presetTargetMl = some target ∧ s.sale.stopSent = false ∧ target ≤ 10 * v := by
  cases h : s.sale.presetTargetMl <;> simp [stopDue, h]

theorem autoStop_of_not_due {v : Nat} {s : State} (h : stopDue s v = false) : autoStop v s = s := by
  simp [autoStop, h]

/-- A STOP that is due passes the generic command path and is recorded when it went out (R318). -/
theorem autoStop_of_due {v : Nat} {s : State} (h : stopDue s v = true) :
    autoStop v s =
      if s.hs.ok = false ∧ s.cfg.codeStop ∉ s.cfg.readQueryCodes then emit (.commandRefused .noHandshake) s
      else if s.cfg.codeResume = some s.cfg.codeStop ∧ s.nozzleOut ≠ some true then emit (.commandRefused .nozzleStowed) s
      else if s.transportOpen = true ∧ s.txFaulted = false then
        { s with
          tx := s.tx ++ [encodeGeneric s.deviceAddr s.nozzle s.cfg.codeStop s.crcOrder]
          sale := { s.sale with stopSent := true } }
      else emit .sendFailed s := by
  rw [autoStop, if_pos h]
  exact issueGeneric_then_mark s.cfg.codeStop (fun t => { t with sale := { t.sale with stopSent := true } }) s

theorem exec_subFilledVolumeAmount {o : Bool} {data : List Byte} {s : State} (h : data.length = 8) :
    exec (.subFilledVolumeAmount o data) s = .next (applyVolume (decode4 (data.take 4)) (decode4 (data.drop 4)) s) := by
  have hrecord : recordVolume 0 data s = applyItem 0 (volumeItem data) s := if_pos h
  exact congrArg _ (hrecord.trans (by rw [volumeItem_eq]; rfl))

/-- Settles O37: the record is reported and remembered; the watch then fires exactly when the target is armed, reached and not yet answered. -/
theorem volumeRecordIsRememberedAndStopsAtTarget : Obligations.VolumeRecordIsRememberedAndStopsAtTarget := by
  intro s o data
  refine ⟨fun hlen => congrArg _ (if_neg hlen), ?_⟩
  rintro hlen v a rfl rfl u hu
  obtain rfl : u = sampleRemembered _ _ s := hu
  rw [exec_subFilledVolumeAmount hlen]
  refine ⟨fun hidle => congrArg _ ?_, fun target htracker harmed hunsent hreached => ?_⟩
  · cases htracker : s.cfg.trackerPresent with
    | false => exact applyVolume_noTracker _ _ htracker
    | true =>
      rw [applyVolume_tracker _ _ htracker, autoStop_of_not_due]
      rw [stopDue_sampleRemembered, Bool.eq_false_iff, ne_eq, stopDue_eq_true_iff]
      rintro ⟨target, harmed, hunsent, hreached⟩
      rcases hidle with h | h | h | ⟨target', h, hbelow⟩
      · simp [htracker] at h
      · simp [harmed] at h
      · simp [hunsent] at h
      · obtain rfl : target = target' := Option.some.inj (harmed.symm.trans h)
        omega
  · have hdue := stopDue_eq_true_iff.2 ⟨target, harmed, hunsent, hreached⟩
    rw [applyVolume_tracker _ _ htracker, autoStop_of_due ((stopDue_sampleRemembered _ _ _ s).trans hdue)]
    rfl

/-! ## Alternate frames (R219, R220) -/

theorem altFrame_refused {command : Byte} {payload : List Byte} {now : Nat} {s : State} (h : s.cfg.altDecodeSupplied = false) :
    altFrame command payload now s = .refused (.altFrameLayoutUnknown command) := by
  simp [altFrame, h]

theorem altFrame_items {command : Byte} {payload : List Byte} {now : Nat} {s : State} {items : List Item}
    (h : s.cfg.altDecodeSupplied = true) (hd : altDecode command payload = some items) :
    altFrame command payload now s = .next (applyItems now items s) := by
  simp [altFrame, h, hd]

theorem altFrame_none {command : Byte} {payload : List Byte} {now : Nat} {s : State} (h : s.cfg.altDecodeSupplied = true)
    (hd : altDecode command payload = none) :
    altFrame command payload now s = .next (emit (.decodeWarning (.badPayloadShape payload.length)) s) := by
  simp [altFrame, h, hd]

/-- Items of one kind, made from a list of their fields, are applied in its order. -/
theorem applyItems_map {α : Type} (now : Nat) (item : α → Item) (l : List α) (s : State) :
    applyItems now (l.map item) s = l.foldl (fun t x => applyItem now (item x) t) s := by
  rw [applyItems, List.foldl_map]

/-- An accepted frame with the items of its decoder, for a row that hands its payload to `altFrame`. -/
theorem exec_altRow_items {α : Type} {command : Byte} {f : LongFrame} {now : Nat} {i : Instr} {s : State} {item : α → Item} {l : List α}
    (hrow : exec i s = receiveLong command f (altFrame command f.payload now) s) (ho : s.transportOpen = true)
    (hc : crcOk command f s.crcOrder = true) (hsupplied : s.cfg.altDecodeSupplied = true)
    (hd : altDecode command f.payload = some (l.map item)) :
    exec i s = .next (l.foldl (fun t x => applyItem now (item x) t) (acceptLong command f s)) := by
  have hcfg := (continues_acceptLong command f s).cfg
  rw [hrow, receiveLong_accepted _ ho hc, altFrame_items (hcfg ▸ hsupplied) hd, applyItems_map]

/-- Settles O42: the four rows hand their payload to `altFrame`, which asks the decoder of their command; the items it answers are all of that command's kind. -/
theorem alternateFramesUseSuppliedDecoder : Obligations.AlternateFramesUseSuppliedDecoder := by
  intro s now f ho
  refine ⟨fun p hp hc => ?_, fun hsupplied => ⟨fun hc l hl => ?_, fun hc l hl => ?_, fun hc l hl => ?_, fun hc l hl => ?_⟩⟩
  · have hrow : exec p.2 s = receiveLong p.1 f (altFrame p.1 f.payload now) s := by
      fin_cases hp <;> rfl
    rw [hrow, receiveLong_accepted _ ho hc, ← (continues_acceptLong p.1 f s).cfg]
    exact ⟨fun hsupplied => ⟨fun items hd => altFrame_items hsupplied hd, fun hd => altFrame_none hsupplied hd⟩, altFrame_refused⟩
  · exact exec_altRow_items (item := fun x : Byte × StatusTable => .status x.1 x.2) rfl ho hc hsupplied (by rw [altDecode, hl]; rfl)
  · exact exec_altRow_items (item := fun x : Nat × Nat => .volume x.1 x.2) rfl ho hc hsupplied (by rw [altDecode, hl]; rfl)
  · refine (exec_altRow_items (item := fun x : Byte × Nat × Nat × Nat => .totals x.1 x.2.1 x.2.2.1 x.2.2.2) rfl ho hc hsupplied (by rw [altDecode, hl]; rfl)).trans ?_
    exact congrArg _ (foldl_emit (fun x : Byte × Nat × Nat × Nat => .totalsReport x.1 x.2.1 x.2.2.1 x.2.2.2) l _)
  · exact exec_altRow_items (item := fun x : Nat × Nibble × Bool => .nozzlePrice x.1 x.2.1 x.2.2) rfl ho hc hsupplied (by rw [altDecode, hl]; rfl)

/-! ## The walk over a composite payload (R225) -/

/-- What the walk does with the records of a payload and the index of the malformed one: `walk` is this of `splitRecords`. -/
def applySplit (totals : Bool) (now : Nat) (r : List SubRecord × Option Nat) (s : State) : State :=
  warnIf (r.2.map .subRecordTruncated) (applyRecords totals now r.1 s)

theorem walk_eq_applySplit (totals : Bool) (now : Nat) (payload : List Byte) (s : State) :
    walk totals now payload s = applySplit totals now (splitRecordsFrom payload.length 0 payload) s := rfl

section Cursor

variable (totals : Bool) (now : Nat) {p : List Byte} {pos : Nat}

/-- The cursor at the end of the payload. -/
theorem walkCursor_of_drop_nil (n : Nat) (s : State) (h : p.drop pos = []) : walkCursor totals now p n pos s = s := by
  cases n with
  | zero => rfl
  | succ n => rw [walkCursor, if_pos (List.drop_eq_nil_iff.1 h)]

theorem length_of_drop_eq {rest : List Byte} (h : p.drop pos = rest) (hne : rest ≠ []) : p.length = pos + rest.length := by
  have hlen := congrArg List.length h
  have hpos := List.length_pos_iff.2 hne
  rw [List.length_drop] at hlen
  omega

/-- The cursor at a single byte left over. -/
theorem walkCursor_of_drop_stray (n : Nat) (s : State) {t : Byte} (h : p.drop pos = [t]) :
    walkCursor totals now p (n + 1) pos s = warn (.subRecordTruncated pos) s := by
  have hlen : p.length = pos + 1 := length_of_drop_eq h nofun
  rw [walkCursor, if_neg (by omega), if_pos (by omega)]

/-- The header and the data of the record at the cursor. -/
theorem record_of_drop {t length : Byte} {rest : List Byte} (h : p.drop pos = t :: length :: rest) :
    p.length = pos + 2 + rest.length ∧ p.getD pos 0 = t ∧ p.getD (pos + 1) 0 = length ∧ p.drop (pos + 2) = rest := by
  have hlen := length_of_drop_eq h nofun
  refine ⟨by rw [hlen, List.length_cons, List.length_cons]; omega, ?_, ?_, ?_⟩
  · rw [List.getD_eq_getElem?_getD, ← Nat.add_zero pos, ← List.getElem?_drop, h]
    rfl
  · rw [List.getD_eq_getElem?_getD, ← List.getElem?_drop, h]
    rfl
  · rw [← List.drop_drop, h]
    rfl

/-- The cursor at a record whose length byte reaches past the payload. -/
theorem walkCursor_of_drop_overrun (n : Nat) (s : State) {t length : Byte} {rest : List Byte}
    (h : p.drop pos = t :: length :: rest) (hover : rest.length < length.toNat) :
    walkCursor totals now p (n + 1) pos s = warn (.subRecordTruncated pos) s := by
  obtain ⟨hlen, -, hlength, -⟩ := record_of_drop h
  rw [walkCursor, hlength, if_neg (by omega), if_neg (by omega), if_pos (by omega)]

/-- The cursor at a whole record: it is applied and stepped over. -/
theorem walkCursor_of_drop_record (n : Nat) (s : State) {t length : Byte} {rest : List Byte}
    (h : p.drop pos = t :: length :: rest) (hwhole : length.toNat ≤ rest.length) :
    walkCursor totals now p (n + 1) pos s =
      walkCursor totals now p n (pos + 2 + length.toNat) (applyRecord totals now ⟨t, rest.take length.toNat⟩ s) := by
  obtain ⟨hlen, htrans, hlength, hdata⟩ := record_of_drop h
  rw [walkCursor, hlength, htrans, hdata, if_neg (by omega), if_neg (by omega), if_neg (by omega)]

/-- The loop of R225 from a cursor does what the records of the rest of the payload do, by induction on its turns: at the end, at a stray byte, at an
overrun, or at a whole record, after which the cursor stands where the next record begins. Both bounds only have to cover the bytes that are left. -/
theorem walkCursor_eq_applySplit (n m : Nat) (s : State) (hn : (p.drop pos).length ≤ n) (hm : (p.drop pos).length ≤ m) :
    walkCursor totals now p n pos s = applySplit totals now (splitRecordsFrom m pos (p.drop pos)) s := by
  induction n generalizing m pos s with
  | zero =>
    have hend : p.drop pos = [] := List.length_eq_zero_iff.1 (Nat.le_zero.1 hn)
    rw [walkCursor_of_drop_nil totals now 0 s hend, hend, splitRecordsFrom]
    rfl
  | succ n ih =>
    match hrest : p.drop pos, m with
    | [], m =>
      rw [walkCursor_of_drop_nil totals now _ s hrest, splitRecordsFrom]
      rfl
    | _ :: _, 0 => simp [hrest] at hm
    | [t], m + 1 => exact walkCursor_of_drop_stray totals now n s hrest
    | t :: length :: rest, m + 1 =>
      rw [hrest] at hn hm
      simp only [List.length_cons] at hn hm
      obtain ⟨-, -, -, hdata⟩ := record_of_drop hrest
      rcases Nat.lt_or_ge rest.length length.toNat with hover | hwhole
      · rw [walkCursor_of_drop_overrun totals now n s hrest hover, splitRecordsFrom_overrun m pos t length rest hover]
        rfl
      · have hnext : p.drop (pos + 2 + length.toNat) = rest.drop length.toNat := by rw [← List.drop_drop, hdata]
        have hleft : (rest.drop length.toNat).length ≤ rest.length := by simp
        rw [walkCursor_of_drop_record totals now n s hrest hwhole, splitRecordsFrom, if_neg (by omega),
          ih m _ (by rw [hnext]; omega) (by rw [hnext]; omega), hnext]
        rfl

end Cursor

theorem walkCursor_eq_walk (totals : Bool) (now : Nat) {payload : List Byte} {turns : Nat} (h : payload.length ≤ turns) (s : State) :
    walkCursor totals now payload turns 0 s = walk totals now payload s := by
  rw [walk_eq_applySplit]
  exact walkCursor_eq_applySplit totals now turns payload.length s h le_rfl

/-- Settles O41: each of the sixteen rows walks its payload after acceptance, and the walk is the loop of R225 from cursor 0. -/
theorem compositeFramesWalkByCursor : Obligations.CompositeFramesWalkByCursor := by
  intro s now f ho p hp hc turns hturns
  have hrow : exec p.2.2 s = receiveLong p.1 f (fun u => .next (walk p.2.1 now f.payload u)) s := by
    fin_cases hp <;> rfl
  rw [hrow, receiveLong_accepted _ ho hc, walkCursor_eq_walk p.2.1 now hturns]

end Sys2Proof.Proofs.Responses

/-! # The pump state machine

The two status code tables (R262, R263, R91), the intent hint beside the pump state (R268, R39), and what moves the pump state: a status alone, and the move is
reported (R265, R267). -/

namespace Sys2Proof.Proofs.PumpStates

open Sys2Proof Sys2Proof.Machine Sys2Proof.Laws Sys2Proof.Proofs.Invariant Sys2Proof.Proofs.Writers Sys2Proof.Proofs.Memory
  Sys2Proof.Proofs.Responses

/-! ## The status code tables (R262) -/

/-- The tables as one chain: the two codes of the extended table alone, then those of both tables. -/
theorem mapStatus_eq_ite (p : Config.Params) (code : Byte) (table : StatusTable) :
    mapStatus p code table =
      if code = 0x07#8 then (if table = .extended then some .switchedOff else none)
      else if code = 0x0B#8 then (if table = .extended then some .suspended else none)
      else if code = 0x00#8 then some .notProgrammed
      else if code = 0x01#8 then p.statusCode01
      else if code = 0x02#8 then p.statusCode02
      else if code = 0x04#8 then some .filling
      else if code = 0x05#8 then p.statusCode05
      else if code = 0x06#8 then some .maxAmountVolume
      else if code = 0x03#8 then p.statusCode03
      else none := by
  unfold mapStatus
  split
  case h_10 => simp_all
  all_goals rfl

/-- By default the base table leaves out the codes 03, 07 and 0B (R263). -/
theorem mapStatus_default_base (code : Byte) :
    mapStatus Config.Params.default code .base =
      if code = 0x00#8 then some .notProgrammed else if code = 0x01#8 then some .reset
      else if code = 0x02#8 then some .authorized else if code = 0x04#8 then some .filling
      else if code = 0x05#8 then some .fillingCompleted else if code = 0x06#8 then some .maxAmountVolume else none := by
  rw [mapStatus_eq_ite]
  split_ifs <;> simp_all [Config.Params.default]

/-- The extended table is the base table with two codes more. -/
theorem mapStatus_extended (p : Config.Params) (code : Byte) :
    mapStatus p code .extended =
      if code = 0x07#8 then some .switchedOff else if code = 0x0B#8 then some .suspended else mapStatus p code .base := by
  simp only [mapStatus_eq_ite, reduceCtorEq, if_true, if_false]
  split_ifs <;> rfl

/-- Settles O33: the default tables by their chains; the rows that the source fixes by evaluation, whatever the parameters are. -/
theorem statusCodeTables : Obligations.StatusCodeTables :=
  ⟨fun code => ⟨mapStatus_default_base code, mapStatus_extended _ code⟩,
    fun _ => ⟨fun _ => ⟨rfl, rfl, rfl, rfl⟩, rfl, rfl, rfl, rfl⟩⟩

/-! ## The intent hint (R268, R39) -/

theorem exec_hostIntentHint (state : PumpState) (s : State) :
    exec (.hostIntentHint state) s =
      if s.hs.ok then .next { s with hintState := some state, evt := s.evt ++ [.statusHint state] } else .next s := rfl

/-- Settles O22: the hint by the handshake; the host is shown the hint where there is one. -/
theorem intentHintNeedsHandshake : Obligations.IntentHintNeedsHandshake := by
  refine fun state s => ⟨fun hok => ?_, fun hno => ?_, rfl, rfl⟩
  · rw [exec_hostIntentHint, if_pos hok]
  · rw [exec_hostIntentHint, if_neg (by simp [hno])]

/-! ## What leaves the pump state as it is (R267) -/

@[simp] theorem send_snd_pumpState (bytes : List Byte) (s : State) : (send bytes s).2.pumpState = s.pumpState := by
  rcases send_cases bytes s with ⟨-, h⟩ | ⟨-, h⟩ <;> rw [h]
  rfl

@[simp] theorem issueGeneric_snd_pumpState (code : Byte) (s : State) : (issueGeneric code s).2.pumpState = s.pumpState := by
  rcases issueGeneric_cases code s with ⟨-, h⟩ | ⟨-, -, h⟩ | ⟨-, -, -, h⟩ | ⟨-, -, -, h⟩ <;> rw [h] <;> rfl

@[simp] theorem busy_pumpState (s : State) : (busy s).pumpState = s.pumpState := by
  rcases busy_cases s with ⟨-, h⟩ | ⟨-, -, h⟩ | ⟨-, -, h⟩ <;> rw [h]
  exact issueGeneric_snd_pumpState _ s

@[simp] theorem handshakeTouch_pumpState (now : Nat) (s : State) : (handshakeTouch now s).pumpState = s.pumpState := by
  cases hok : s.hs.ok with
  | false => rw [handshakeTouch_first now hok, emit_pumpState]
  | true => rw [handshakeTouch_ok now hok]

@[simp] theorem sample_pumpState (volumeCl amountC : Nat) (s : State) : (sample volumeCl amountC s).pumpState = s.pumpState := by
  have hremember : (rememberSample volumeCl amountC s).pumpState = s.pumpState := by
    unfold rememberSample
    split <;> rfl
  unfold sample
  rcases autoStop_cases volumeCl (rememberSample volumeCl amountC s) with ⟨-, h⟩ | ⟨-, -, h⟩ | ⟨-, -, h⟩ <;> rw [h]
  · exact hremember
  · exact (issueGeneric_snd_pumpState _ _).trans hremember
  · exact hremember

@[simp] theorem applyVolume_pumpState (volumeCl amountC : Nat) (s : State) : (applyVolume volumeCl amountC s).pumpState = s.pumpState := by
  unfold applyVolume
  dsimp only
  split
  · rw [sample_pumpState, emit_pumpState]
  · exact emit_pumpState _ s

/-- The three parts of an acceptance report and send (R210). -/
@[simp] theorem acceptLong_pumpState (command : Byte) (f : LongFrame) (s : State) : (acceptLong command f s).pumpState = s.pumpState := by
  rw [acceptLong_eq_streams]

@[simp] theorem sendPreset_pumpState (volumeCl : Int) (s : State) : (sendPreset volumeCl s).pumpState = s.pumpState := by
  unfold sendPreset
  dsimp only
  split
  · rw [armPreset_pumpState, send_snd_pumpState]
  · exact send_snd_pumpState _ s

/-! ## Records without a status -/

@[simp] theorem recordVolume_pumpState (now : Nat) (data : List Byte) (s : State) : (recordVolume now data s).pumpState = s.pumpState := by
  unfold recordVolume
  split
  · exact applyVolume_pumpState _ _ s
  · rfl

@[simp] theorem recordNozzlePrice_pumpState (now : Nat) (data : List Byte) (s : State) :
    (recordNozzlePrice now data s).pumpState = s.pumpState := by
  unfold recordNozzlePrice
  split <;> rfl

@[simp] theorem recordTotals_pumpState (now : Nat) (data : List Byte) (s : State) : (recordTotals now data s).pumpState = s.pumpState := by
  unfold recordTotals
  split <;> rfl

/-! ## Frames without a status -/

theorem receiveShort_pumpState {code : Byte} {handler : State → State} {s t : State} (hkept : ∀ u, (handler u).pumpState = u.pumpState)
    (ht : receiveShort code handler s = .next t) : t.pumpState = s.pumpState := by
  cases ho : s.transportOpen with
  | false =>
    cases (receiveShort_closed handler ho).symm.trans ht
    rfl
  | true =>
    cases (receiveShort_open handler ho).symm.trans ht
    exact hkept _

theorem receiveLong_pumpState {command : Byte} {f : LongFrame} {handler : State → Result} {s t : State}
    (hkept : ∀ u v, handler u = .next v → v.pumpState = u.pumpState) (ht : receiveLong command f handler s = .next t) :
    t.pumpState = s.pumpState := by
  rcases receiveLong_cases ht with ⟨-, rfl⟩ | ⟨-, -, rfl⟩ | ⟨-, -, hrun⟩
  · rfl
  · rfl
  · exact (hkept _ _ hrun).trans (acceptLong_pumpState command f s)

/-- The inbound rows without a status: the Short frames, an unknown command and the records of the other kinds. -/
theorem exec_pumpState_of_inboundRow {i : Instr} {s t : State} (hi : (inboundRow i && carriesNoStatus i) = true)
    (ht : exec i s = .next t) : t.pumpState = s.pumpState := by
  cases i
  case rxPollEcho | rxAckEcho => exact receiveShort_pumpState (fun _ => rfl) ht
  case rxBusy => exact receiveShort_pumpState busy_pumpState ht
  case rxUnknownShort code => exact receiveShort_pumpState (emit_pumpState (.decodeWarning (.unknownShortCode code))) ht
  case rxUnknownCommand =>
    rw [exec_rxUnknownCommand] at ht
    refine receiveLong_pumpState (fun u v hv => ?_) ht
    cases hv
    rfl
  case subFilledVolumeAmount =>
    cases ht
    exact recordVolume_pumpState 0 _ s
  case subNozzlePrice =>
    cases ht
    exact recordNozzlePrice_pumpState 0 _ s
  case subTotals =>
    cases ht
    exact recordTotals_pumpState 0 _ s
  case subUnknownTrans =>
    cases ht
    rfl
  all_goals cases hi

/-! ## Operations and steps -/

/-- An operation sends, refuses, or writes registers of its own (R350 to R361); a hint is kept beside the pump state (R268). -/
theorem runHostOp_pumpState {op : HostOp} {s t : State} (ht : runHostOp op s = .next t) : t.pumpState = s.pumpState := by
  cases op with
  | sendGeneric code =>
    cases ht
    exact issueGeneric_snd_pumpState code s
  | sendPresetVolume v =>
    simp only [runHostOp, execHostSendPresetVolume] at ht
    split_ifs at ht <;> cases ht
    · rfl
    · rfl
    · exact sendPreset_pumpState v s
  | sendTotalsRequest =>
    simp only [runHostOp, execHostSendTotalsRequest] at ht
    split_ifs at ht <;> cases ht
    · rfl
    · exact send_snd_pumpState _ s
  | sendMinPoll | sendMinAck =>
    cases ht
    exact send_snd_pumpState _ s
  | intentHint state =>
    simp only [runHostOp, execHostIntentHint] at ht
    split_ifs at ht <;> cases ht <;> rfl
  | setCrcOrder | setAutoAck | setAutoPoll | transportOpen | transportClose =>
    cases ht
    rfl

theorem receiveByte_pumpState {b : Byte} {s t : State} (ht : receiveByte b s = .next t) : t.pumpState = s.pumpState := by
  rcases receiveByte_next_cases ht with ⟨-, rfl⟩ | ⟨_, -, rfl⟩ <;> rfl

theorem execStepTimerFire_pumpState {s t : State} (ht : execStepTimerFire s = .next t) : t.pumpState = s.pumpState := by
  unfold execStepTimerFire at ht
  split_ifs at ht <;> cases ht
  · exact send_snd_pumpState _ s
  · rfl

/-- By the class of the instruction; `Dispatch` and the session reset are not among those without a status. -/
theorem exec_pumpState_of_carriesNoStatus {i : Instr} {s t : State} (hno : carriesNoStatus i = true) (ht : exec i s = .next t) :
    t.pumpState = s.pumpState := by
  rcases instr_classes i with hin | hout | ⟨op, rfl⟩ | ⟨b, rfl⟩ | ⟨now, rfl⟩ | rfl | ⟨op, rfl⟩ | rfl | ⟨load, rfl⟩
  · exact exec_pumpState_of_inboundRow (Bool.and_eq_true_iff.2 ⟨hin, hno⟩) ht
  · obtain ⟨bytes, hsend⟩ := hout s
    cases hsend.symm.trans ht
    exact send_snd_pumpState bytes s
  · exact runHostOp_pumpState ((exec_hostRow op s).symm.trans ht)
  · exact receiveByte_pumpState ht
  · cases hno
  · exact execStepTimerFire_pumpState ht
  · exact runHostOp_pumpState ht
  · cases ht
    rfl
  · cases hno

/-! ## A move is reported (R265) -/

/-- From `s` to `t` events were appended, and among them the new pump state where it moved. -/
def MoveReported (s t : State) : Prop :=
  ∃ more : List Event, t.evt = s.evt ++ more ∧ (t.pumpState = s.pumpState ∨ .statusChanged t.pumpState ∈ more)

theorem moveReported_of_kept {s t : State} (hevt : s.evt <+: t.evt) (hkept : t.pumpState = s.pumpState) : MoveReported s t := by
  obtain ⟨more, hmore⟩ := hevt
  exact ⟨more, hmore.symm, .inl hkept⟩

/-- When the second part moves nothing, the pump state is the one the first part reported. -/
theorem MoveReported.trans {s t u : State} (h : MoveReported s t) (k : MoveReported t u) : MoveReported s u := by
  obtain ⟨more, hevt, hmove⟩ := h
  obtain ⟨more', hevt', hmove'⟩ := k
  refine ⟨more ++ more', by simp [hevt, hevt'], ?_⟩
  rcases hmove' with hkept | hreported
  · rw [hkept]
    exact hmove.imp_right (List.mem_append_left more')
  · exact .inr (List.mem_append_right more hreported)

theorem moveReported_onStatus (prev new : PumpState) (s : State) : MoveReported s (onStatus prev new s) := by
  refine moveReported_of_kept (continues_onStatus prev new s).evt ?_
  have hclose (u : State) : (closeWindow u).pumpState = u.pumpState := (settleSale_frame u).2.1
  rcases onStatus_cases prev new s with ⟨-, -, h⟩ | ⟨-, -, h⟩ | ⟨-, -, h⟩ | ⟨-, -, h⟩ | ⟨-, h⟩ <;> rw [h]
  · rfl
  · split <;> simp [hclose]
  · split <;> rfl

/-- The new state is written and reported before the tracker is told (R265). -/
theorem moveReported_setState (new : PumpState) (s : State) : MoveReported s (setState new s) := by
  have henter : MoveReported s (emit (.statusChanged new) { s with pumpState := new, hintState := none }) :=
    ⟨[.statusChanged new], rfl, .inr (List.mem_singleton_self _)⟩
  cases htracker : s.cfg.trackerPresent with
  | false => rwa [setState_noTracker htracker]
  | true =>
    rw [setState_tracker htracker]
    exact henter.trans (moveReported_onStatus _ _ _)

/-- Of the operations of the decoder only `setState` moves the pump state. -/
theorem keptByDecoding_moveReported (s : State) : KeptByDecoding (MoveReported s) where
  emit e u _ h := h.trans (moveReported_of_kept (continues_emit e u).evt rfl)
  ack u h := h.trans (moveReported_of_kept (continues_send minAck u).evt (send_snd_pumpState minAck u))
  touch now u h := h.trans (moveReported_of_kept (continues_handshakeTouch now u).evt (handshakeTouch_pumpState now u))
  setState new u h := h.trans (moveReported_setState new u)
  sample v a u _ h := h.trans (moveReported_of_kept (continues_sample v a u).evt (sample_pumpState v a u))
  nozzle p n o u h := h.trans (moveReported_of_kept (continues_applyItem 0 (.nozzlePrice p n o) u).evt rfl)
  busy u h := h.trans (moveReported_of_kept (continues_busy u).evt (busy_pumpState u))

theorem moveReported_stepDispatch {now : Nat} {s t : State} (ht : exec (.stepDispatch now) s = .next t) : MoveReported s t := by
  have hsame {u : State} (hevt : u.evt = s.evt) (hkept : u.pumpState = s.pumpState) : MoveReported s u :=
    moveReported_of_kept (by simp [hevt]) hkept
  cases hq : s.frameQ with
  | nil =>
    cases (execStepDispatch_nil now hq).symm.trans ht
    exact hsame rfl rfl
  | cons q rest => exact (keptByDecoding_moveReported s).dispatch hq (hsame rfl rfl) ht

/-- What carries a status is something received, a `Dispatch` of it, or a session reset. -/
theorem carriesNoStatus_or_inboundRow {i : Instr} (hdispatch : ∀ now, i ≠ .stepDispatch now)
    (hreset : ∀ load, i ≠ .stepSessionReset load) : (carriesNoStatus i || inboundRow i) = true := by
  cases i
  case stepDispatch now => exact absurd rfl (hdispatch now)
  case stepSessionReset load => exact absurd rfl (hreset load)
  all_goals rfl

theorem exec_moveReported {i : Instr} {s t : State} (ht : exec i s = .next t) (hreset : ∀ load, i ≠ .stepSessionReset load) :
    MoveReported s t := by
  by_cases hdispatch : ∃ now, i = .stepDispatch now
  · obtain ⟨now, rfl⟩ := hdispatch
    exact moveReported_stepDispatch ht
  rcases Bool.or_eq_true_iff.1 (carriesNoStatus_or_inboundRow (not_exists.1 hdispatch) hreset) with hno | hin
  · rcases streamsOnlyGrow i s t ht with ⟨⟨load, hload⟩, -⟩ | ⟨-, hevt⟩
    · exact absurd hload (hreset load)
    · exact moveReported_of_kept hevt (exec_pumpState_of_carriesNoStatus hno ht)
  · exact (keptByDecoding_moveReported s).exec hin (moveReported_of_kept (Continues.refl s).evt rfl) ht

/-- Settles O52: without a status nothing writes the pump state; what may carry one writes it in `setState` alone, which reports it. -/
theorem pumpStateMovesOnlyByReportedStatus : Obligations.PumpStateMovesOnlyByReportedStatus :=
  ⟨fun _ _ _ hno ht => exec_pumpState_of_carriesNoStatus hno ht, fun _ _ _ ht hreset => exec_moveReported ht hreset⟩

end Sys2Proof.Proofs.PumpStates

/-! # The handshake and the heartbeat

What moves the handshake, and the one event that announces it (R281, R282, R41); what the block sends while the handshake does not hold (R283, R287, R400); the poll
of the timer (R293). -/

namespace Sys2Proof.Proofs.Handshake

open Sys2Proof Sys2Proof.Machine Sys2Proof.Laws Sys2Proof.Proofs.Stops Sys2Proof.Proofs.Invariant Sys2Proof.Proofs.Writers
  Sys2Proof.Proofs.Encoder Sys2Proof.Proofs.Sent Sys2Proof.Proofs.Responses

/-! ## The timer (R293) -/

theorem timerEnabled_eq_true_iff {s : State} : timerEnabled s = true ↔ s.autoPoll = true ∧ s.transportOpen = true := by
  simp [timerEnabled]

theorem exec_stepTimerFire_enabled {s : State} (h : timerEnabled s = true) : exec .stepTimerFire s = .next (send minPoll s).2 :=
  if_pos h

theorem exec_stepTimerFire_disabled {s : State} (h : timerEnabled s = false) : exec .stepTimerFire s = .next s :=
  if_neg (by simp [h])

/-- Settles O24: an enabled timer gives the poll to `send`, whose guard has the transport open already. -/
theorem timerFirePollsWhileEnabled : Obligations.TimerFirePollsWhileEnabled := by
  intro s
  simp only [← timerEnabled_eq_true_iff]
  cases henabled : timerEnabled s with
  | false => rw [exec_stepTimerFire_disabled henabled, if_neg nofun]
  | true =>
    obtain ⟨-, hopen⟩ := timerEnabled_eq_true_iff.1 henabled
    rw [exec_stepTimerFire_enabled henabled, send_snd_eq_ite, if_pos rfl]
    simp only [hopen, true_and, minPoll]

/-! ## What keeps the handshake -/

theorem handshakesIn_concat (evt : List Event) (e : Event) :
    handshakesIn (evt ++ [e]) = handshakesIn evt + if e = .handshakeAcquired then 1 else 0 := by
  cases e <;> simp [handshakesIn]

/-- From `s` to `t` the handshake stays as it is, but for its timestamp, and nothing announces it. -/
structure KeepsHandshake (s t : State) : Prop where
  ok : t.hs.ok = s.hs.ok
  everOk : t.hs.everOk = s.hs.everOk
  announced : handshakesIn t.evt = handshakesIn s.evt

theorem keepsHandshake_of_same {s t : State} (hhs : t.hs = s.hs := by rfl) (hevt : t.evt = s.evt := by rfl) : KeepsHandshake s t := by
  constructor <;> simp [hhs, hevt]

/-- One report other than the announcement. -/
theorem keepsHandshake_of_report {s t : State} (e : Event) (he : e ≠ .handshakeAcquired := by exact nofun) (hhs : t.hs = s.hs := by rfl)
    (hevt : t.evt = s.evt ++ [e] := by rfl) : KeepsHandshake s t := by
  constructor <;> simp [hhs, hevt, handshakesIn_concat, he]

theorem KeepsHandshake.trans {s t u : State} (h : KeepsHandshake s t) (k : KeepsHandshake t u) : KeepsHandshake s u :=
  ⟨k.ok.trans h.ok, k.everOk.trans h.everOk, k.announced.trans h.announced⟩

theorem keepsHandshake_send (bytes : List Byte) (s : State) : KeepsHandshake s (send bytes s).2 := by
  rcases send_cases bytes s with ⟨-, h⟩ | ⟨-, h⟩ <;> rw [h]
  · exact keepsHandshake_of_same
  · exact keepsHandshake_of_report .sendFailed

theorem keepsHandshake_issueGeneric (code : Byte) (s : State) : KeepsHandshake s (issueGeneric code s).2 := by
  rcases issueGeneric_cases code s with ⟨-, h⟩ | ⟨-, -, h⟩ | ⟨-, -, -, h⟩ | ⟨-, -, -, h⟩ <;> rw [h]
  · exact keepsHandshake_of_report (.commandRefused .noHandshake)
  · exact keepsHandshake_of_report (.commandRefused .nozzleStowed)
  · exact keepsHandshake_of_same
  · exact keepsHandshake_of_report .sendFailed

theorem keepsHandshake_busy (s : State) : KeepsHandshake s (busy s) := by
  rcases busy_cases s with ⟨-, h⟩ | ⟨-, -, h⟩ | ⟨-, -, h⟩ <;> rw [h]
  · exact keepsHandshake_of_same
  · exact keepsHandshake_issueGeneric _ s
  · exact keepsHandshake_of_same

theorem keepsHandshake_closeWindow (s : State) : KeepsHandshake s (closeWindow s) := by
  have hsettle : KeepsHandshake s (settleSale s) := by
    rcases settleSale_cases s with ⟨-, -, h⟩ | ⟨-, h⟩ | ⟨-, -, h⟩ <;> rw [h]
    · exact keepsHandshake_of_report (.countersSave _ _)
    · exact keepsHandshake_of_report (.decodeWarning .noSampleInSale)
    · exact keepsHandshake_of_same
  exact hsettle.trans keepsHandshake_of_same

theorem keepsHandshake_onStatus (prev new : PumpState) (s : State) : KeepsHandshake s (onStatus prev new s) := by
  rcases onStatus_cases prev new s with ⟨-, -, h⟩ | ⟨-, -, h⟩ | ⟨-, -, h⟩ | ⟨-, -, h⟩ | ⟨-, h⟩ <;> rw [h]
  · exact keepsHandshake_of_report .saleOpened
  · exact keepsHandshake_of_same
  · split
    · exact (keepsHandshake_closeWindow s).trans keepsHandshake_of_same
    · exact keepsHandshake_closeWindow s
  · split <;> exact keepsHandshake_of_same
  · exact keepsHandshake_of_same

theorem keepsHandshake_setState (new : PumpState) (s : State) : KeepsHandshake s (setState new s) := by
  have henter : KeepsHandshake s (emit (.statusChanged new) { s with pumpState := new, hintState := none }) :=
    keepsHandshake_of_report (.statusChanged new)
  cases htracker : s.cfg.trackerPresent with
  | false => rwa [setState_noTracker htracker]
  | true =>
    rw [setState_tracker htracker]
    exact henter.trans (keepsHandshake_onStatus _ _ _)

theorem keepsHandshake_sample (volumeCl amountC : Nat) (s : State) : KeepsHandshake s (sample volumeCl amountC s) := by
  have hremember : KeepsHandshake s (rememberSample volumeCl amountC s) := by
    unfold rememberSample
    split <;> exact keepsHandshake_of_same
  refine hremember.trans ?_
  unfold sample
  rcases autoStop_cases volumeCl (rememberSample volumeCl amountC s) with ⟨-, h⟩ | ⟨-, -, h⟩ | ⟨-, -, h⟩ <;> rw [h]
  · exact keepsHandshake_of_same
  · exact keepsHandshake_issueGeneric _ _
  · exact keepsHandshake_of_same

theorem keepsHandshake_sendPreset (volumeCl : Int) (s : State) : KeepsHandshake s (sendPreset volumeCl s) := by
  have hsent := keepsHandshake_send (encodePreset s.deviceAddr volumeCl s.crcOrder) s
  unfold sendPreset
  dsimp only
  split
  · exact hsent.trans keepsHandshake_of_same
  · exact hsent

/-- Neither opening nor closing the transport nor any other operation touches the handshake (R282). -/
theorem keepsHandshake_runHostOp {op : HostOp} {s t : State} (ht : runHostOp op s = .next t) : KeepsHandshake s t := by
  cases op with
  | sendGeneric code =>
    cases ht
    exact keepsHandshake_issueGeneric code s
  | sendPresetVolume v =>
    simp only [runHostOp, execHostSendPresetVolume] at ht
    split_ifs at ht <;> cases ht
    · exact keepsHandshake_of_report (.commandRefused .noHandshake)
    · exact keepsHandshake_of_report (.commandRefused .presetAlreadySent)
    · exact keepsHandshake_sendPreset v s
  | sendTotalsRequest =>
    simp only [runHostOp, execHostSendTotalsRequest] at ht
    split_ifs at ht <;> cases ht
    · exact keepsHandshake_of_report (.commandRefused .noHandshake)
    · exact keepsHandshake_send _ s
  | sendMinPoll | sendMinAck =>
    cases ht
    exact keepsHandshake_send _ s
  | intentHint state =>
    simp only [runHostOp, execHostIntentHint] at ht
    split_ifs at ht <;> cases ht
    · exact keepsHandshake_of_report (.statusHint state)
    · exact keepsHandshake_of_same
  | setCrcOrder | setAutoAck | setAutoPoll | transportOpen | transportClose =>
    cases ht
    exact keepsHandshake_of_same

theorem keepsHandshake_receiveByte {b : Byte} {s t : State} (ht : receiveByte b s = .next t) : KeepsHandshake s t := by
  rcases receiveByte_next_cases ht with ⟨-, rfl⟩ | ⟨_, -, rfl⟩ <;> exact keepsHandshake_of_same

theorem keepsHandshake_stepTimerFire {s t : State} (ht : exec .stepTimerFire s = .next t) : KeepsHandshake s t := by
  cases henabled : timerEnabled s with
  | false =>
    cases (exec_stepTimerFire_disabled henabled).symm.trans ht
    exact keepsHandshake_of_same
  | true =>
    cases (exec_stepTimerFire_enabled henabled).symm.trans ht
    exact keepsHandshake_send minPoll s

/-! ## How the handshake moves (R281, R282) -/

/-- From `s`, where it does not hold, to `t` the handshake is acquired and announced once. -/
structure AcquiresHandshake (s t : State) : Prop where
  not_ok : s.hs.ok = false
  ok : t.hs.ok = true
  everOk : t.hs.everOk = true
  announced : handshakesIn t.evt = handshakesIn s.evt + 1

/-- The handshake is kept or acquired; it is never lost. -/
def KeepsOrAcquires (s t : State) : Prop := KeepsHandshake s t ∨ AcquiresHandshake s t

/-- What is acquired in the first part is not acquired again in the second. -/
theorem KeepsOrAcquires.trans {s t u : State} (h : KeepsOrAcquires s t) (k : KeepsOrAcquires t u) : KeepsOrAcquires s u := by
  rcases h with h | h <;> rcases k with k | k
  · exact .inl (h.trans k)
  · exact .inr ⟨h.ok ▸ k.not_ok, k.ok, k.everOk, by rw [k.announced, h.announced]⟩
  · exact .inr ⟨h.not_ok, k.ok.trans h.ok, k.everOk.trans h.everOk, k.announced.trans h.announced⟩
  · exact absurd h.ok (by simp [k.not_ok])

theorem keepsOrAcquires_handshakeTouch (now : Nat) (s : State) : KeepsOrAcquires s (handshakeTouch now s) := by
  cases hok : s.hs.ok with
  | true =>
    rw [handshakeTouch_ok now hok]
    exact .inl ⟨rfl, rfl, rfl⟩
  | false =>
    rw [handshakeTouch_first now hok]
    exact .inr ⟨hok, rfl, rfl, handshakesIn_concat s.evt .handshakeAcquired⟩

/-- Of the operations of the decoder only the touch acquires the handshake (R281). -/
theorem keptByDecoding_keepsOrAcquires (s : State) : KeptByDecoding (KeepsOrAcquires s) where
  emit e _ hplain h := h.trans (.inl (keepsHandshake_of_report e (by rintro rfl; cases hplain)))
  ack u h := h.trans (.inl (keepsHandshake_send minAck u))
  touch now u h := h.trans (keepsOrAcquires_handshakeTouch now u)
  setState new u h := h.trans (.inl (keepsHandshake_setState new u))
  sample v a u _ h := h.trans (.inl (keepsHandshake_sample v a u))
  nozzle _ _ o _ h := h.trans (.inl (keepsHandshake_of_report (.nozzleChanged o)))
  busy u h := h.trans (.inl (keepsHandshake_busy u))

theorem keepsOrAcquires_stepDispatch {now : Nat} {s t : State} (ht : exec (.stepDispatch now) s = .next t) : KeepsOrAcquires s t := by
  cases hq : s.frameQ with
  | nil =>
    cases (execStepDispatch_nil now hq).symm.trans ht
    exact .inl keepsHandshake_of_same
  | cons q rest => exact (keptByDecoding_keepsOrAcquires s).dispatch hq (.inl keepsHandshake_of_same) ht

/-- By the class of the instruction: what is received may acquire the handshake, everything else but a session reset keeps it. -/
theorem exec_keepsOrAcquires {i : Instr} {s t : State} (ht : exec i s = .next t) (hreset : ∀ load, i ≠ .stepSessionReset load) :
    KeepsOrAcquires s t := by
  rcases instr_classes i with hin | hout | ⟨op, rfl⟩ | ⟨b, rfl⟩ | ⟨now, rfl⟩ | rfl | ⟨op, rfl⟩ | rfl | ⟨load, rfl⟩
  · exact (keptByDecoding_keepsOrAcquires s).exec hin (.inl keepsHandshake_of_same) ht
  · obtain ⟨bytes, hsend⟩ := hout s
    cases hsend.symm.trans ht
    exact .inl (keepsHandshake_send bytes s)
  · exact .inl (keepsHandshake_runHostOp ((exec_hostRow op s).symm.trans ht))
  · exact .inl (keepsHandshake_receiveByte ht)
  · exact keepsOrAcquires_stepDispatch ht
  · exact .inl (keepsHandshake_stepTimerFire ht)
  · exact .inl (keepsHandshake_runHostOp ht)
  · cases ht
    exact .inl (keepsHandshake_of_report .transportFault)
  · exact absurd rfl (hreset load)

theorem KeepsOrAcquires.permanent {s t : State} (h : KeepsOrAcquires s t) :
    (s.hs.ok = true → t.hs.ok = true) ∧ (s.hs.everOk = true → t.hs.everOk = true) := by
  rcases h with h | h
  · exact ⟨h.ok.trans, h.everOk.trans⟩
  · exact ⟨fun _ => h.ok, fun _ => h.everOk⟩

theorem KeepsOrAcquires.announced_once {s t : State} (h : KeepsOrAcquires s t)
    (hs : handshakesIn s.evt = if s.hs.ok then 1 else 0) : handshakesIn t.evt = if t.hs.ok then 1 else 0 := by
  rcases h with h | h
  · rw [h.announced, h.ok, hs]
  · simp [h.announced, hs, h.not_ok, h.ok]

/-- Settles O51: every instruction but the session reset keeps or acquires the handshake; after the reset it does not hold and no event is there. -/
theorem handshakeIsPermanentAndAnnouncedOnce : Obligations.HandshakeIsPermanentAndAnnouncedOnce := by
  refine ⟨fun i s t ht hreset => (exec_keepsOrAcquires ht hreset).permanent, fun i s t ht hs => ?_⟩
  by_cases hreset : ∃ load, i = .stepSessionReset load
  · obtain ⟨load, rfl⟩ := hreset
    cases ht
    rfl
  · exact (exec_keepsOrAcquires ht (not_exists.1 hreset)).announced_once hs

/-! ## A tracker that is not armed -/

/-- No preset is watched and no AUTHORIZE is pending, so nothing received makes the block send a command (R297). -/
structure Unarmed (s : State) : Prop where
  target : s.sale.presetTargetMl = none
  pending : s.sale.authorizePending = false

/-- Arming takes the handshake (R53 (e)). -/
theorem unarmed_of_inv {s : State} (h : Inv s) (hno : s.hs.ok = false) : Unarmed s where
  target := by
    by_contra harmed
    simp [h.armed harmed] at hno
  pending := by
    by_contra hpending
    simp [h.pending (by simpa using hpending)] at hno

theorem unarmed_of_same {s t : State} (h : Unarmed s) (htarget : t.sale.presetTargetMl = s.sale.presetTargetMl := by rfl)
    (hpending : t.sale.authorizePending = s.sale.authorizePending := by rfl) : Unarmed t :=
  ⟨htarget.trans h.target, hpending.trans h.pending⟩

theorem unarmed_send (bytes : List Byte) {s : State} (h : Unarmed s) : Unarmed (send bytes s).2 := by
  rcases send_cases bytes s with ⟨-, hsend⟩ | ⟨-, hsend⟩ <;> rw [hsend] <;> exact unarmed_of_same h

theorem unarmed_handshakeTouch (now : Nat) {s : State} (h : Unarmed s) : Unarmed (handshakeTouch now s) := by
  cases hok : s.hs.ok with
  | false =>
    rw [handshakeTouch_first now hok]
    exact unarmed_of_same h
  | true =>
    rw [handshakeTouch_ok now hok]
    exact unarmed_of_same h

theorem unarmed_closeWindow {s : State} (h : Unarmed s) : Unarmed (closeWindow s) := by
  obtain ⟨-, -, htarget, hpending⟩ := closeWindow_frame s
  exact ⟨htarget, hpending.trans h.pending⟩

theorem unarmed_onStatus (prev new : PumpState) {s : State} (h : Unarmed s) : Unarmed (onStatus prev new s) := by
  rcases onStatus_cases prev new s with ⟨-, -, ht⟩ | ⟨-, -, ht⟩ | ⟨-, -, ht⟩ | ⟨-, -, ht⟩ | ⟨-, ht⟩ <;> rw [ht]
  · exact unarmed_of_same h
  · exact h
  · split
    · exact unarmed_of_same (unarmed_closeWindow h)
    · exact unarmed_closeWindow h
  · split
    · exact unarmed_of_same h
    · exact h
  · exact h

theorem unarmed_setState (new : PumpState) {s : State} (h : Unarmed s) : Unarmed (setState new s) := by
  cases htracker : s.cfg.trackerPresent with
  | false =>
    rw [setState_noTracker htracker]
    exact unarmed_of_same h
  | true =>
    rw [setState_tracker htracker]
    exact unarmed_onStatus _ _ (unarmed_of_same h)

theorem unarmed_rememberSample (volumeCl amountC : Nat) {s : State} (h : Unarmed s) : Unarmed (rememberSample volumeCl amountC s) := by
  unfold rememberSample
  split
  · exact unarmed_of_same h
  · exact h

/-- Without a target the watch does nothing (R318). -/
theorem sample_of_unarmed (volumeCl amountC : Nat) {s : State} (h : Unarmed s) :
    sample volumeCl amountC s = rememberSample volumeCl amountC s :=
  autoStop_of_not_due (by simp [stopDue, (unarmed_rememberSample volumeCl amountC h).target])

/-! ## What leaves before the handshake -/

/-- From `s` to `t` only frames were sent that may leave before the handshake (R283, R400). -/
def SendsOnlyAllowed (s t : State) : Prop :=
  ∃ sent : List (List Byte), t.tx = s.tx ++ sent ∧ ∀ bytes ∈ sent, allowedBeforeHandshake s bytes

theorem SendsOnlyAllowed.refl (s : State) : SendsOnlyAllowed s s := ⟨[], by simp, nofun⟩

/-- What leaves `tx` as it is may follow. -/
theorem SendsOnlyAllowed.of_tx_eq {s t u : State} (h : SendsOnlyAllowed s t) (htx : u.tx = t.tx := by rfl) : SendsOnlyAllowed s u := by
  unfold SendsOnlyAllowed
  rwa [htx]

/-- So may the sending of one more frame that is allowed. -/
theorem SendsOnlyAllowed.of_tx_append {s t u : State} {frame : List Byte} (h : SendsOnlyAllowed s t)
    (hframe : allowedBeforeHandshake s frame) (htx : u.tx = t.tx ++ [frame] := by rfl) : SendsOnlyAllowed s u := by
  obtain ⟨sent, hsent, hallowed⟩ := h
  refine ⟨sent ++ [frame], by rw [htx, hsent, List.append_assoc], fun bytes hmem => ?_⟩
  rcases List.mem_append.1 hmem with hold | hnew
  · exact hallowed bytes hold
  · exact List.mem_singleton.1 hnew ▸ hframe

theorem SendsOnlyAllowed.send {s t : State} {frame : List Byte} (h : SendsOnlyAllowed s t) (hframe : allowedBeforeHandshake s frame) :
    SendsOnlyAllowed s (send frame t).2 := by
  rcases send_cases frame t with ⟨-, hsend⟩ | ⟨-, hsend⟩ <;> rw [hsend]
  · exact h.of_tx_append hframe
  · exact h.of_tx_eq

theorem allowedBeforeHandshake_minPoll (s : State) : allowedBeforeHandshake s minPoll := .inl rfl

theorem allowedBeforeHandshake_minAck (s : State) : allowedBeforeHandshake s minAck := .inr (.inl rfl)

/-- What the gate admits before the handshake is a read query (R284). -/
theorem mem_readQueryCodes_of_gateAdmits {code : Byte} {s : State} (hno : s.hs.ok = false)
    (hgate : gateAdmits s (.generic code) = true) : code ∈ s.cfg.readQueryCodes := by
  simpa [gateAdmits, hno] using hgate

theorem sendsOnlyAllowed_issueGeneric (code : Byte) {s : State} (hno : s.hs.ok = false) : SendsOnlyAllowed s (issueGeneric code s).2 := by
  rcases issueGeneric_cases code s with ⟨-, h⟩ | ⟨-, -, h⟩ | ⟨hgate, -, -, h⟩ | ⟨-, -, -, h⟩ <;> rw [h]
  case inr.inr.inl =>
    have hallowed : allowedBeforeHandshake s (encodeGeneric s.deviceAddr s.nozzle code s.crcOrder) :=
      .inr (.inr (.inl ⟨code, mem_readQueryCodes_of_gateAdmits hno hgate, rfl⟩))
    exact (SendsOnlyAllowed.refl s).of_tx_append hallowed
  all_goals exact (SendsOnlyAllowed.refl s).of_tx_eq

/-- The tracker stays unarmed even when a frame acquires the handshake and brings a volume after it, so no command follows in the same step. -/
def QuietSince (s t : State) : Prop := SendsOnlyAllowed s t ∧ Unarmed t

/-- Decoding sends acknowledges alone while the tracker is not armed. -/
theorem keptByDecoding_quietSince (s : State) : KeptByDecoding (QuietSince s) where
  emit _ _ _ := fun ⟨hsent, hun⟩ => ⟨hsent.of_tx_eq, unarmed_of_same hun⟩
  ack _ := fun ⟨hsent, hun⟩ => ⟨hsent.send (allowedBeforeHandshake_minAck s), unarmed_send minAck hun⟩
  touch now u := fun ⟨hsent, hun⟩ => ⟨hsent.of_tx_eq (handshakeTouch_tx now u), unarmed_handshakeTouch now hun⟩
  setState new u := fun ⟨hsent, hun⟩ => ⟨hsent.of_tx_eq (setState_tx new u), unarmed_setState new hun⟩
  sample v a u _ := fun ⟨hsent, hun⟩ =>
    (sample_of_unarmed v a hun).symm ▸ ⟨hsent.of_tx_eq (rememberSample_tx v a u), unarmed_rememberSample v a hun⟩
  nozzle _ _ _ _ := fun ⟨hsent, hun⟩ => ⟨hsent.of_tx_eq, unarmed_of_same hun⟩
  busy _ h := (busy_of_not_pending h.2.pending).symm ▸ h

theorem sendsOnlyAllowed_stepDispatch {now : Nat} {s t : State} (hun : Unarmed s) (ht : exec (.stepDispatch now) s = .next t) :
    SendsOnlyAllowed s t := by
  cases hq : s.frameQ with
  | nil =>
    cases (execStepDispatch_nil now hq).symm.trans ht
    exact .refl s
  | cons q rest =>
    have hquiet : QuietSince s t :=
      (keptByDecoding_quietSince s).dispatch hq ⟨(SendsOnlyAllowed.refl s).of_tx_eq, unarmed_of_same hun⟩ ht
    exact hquiet.1

theorem sendsOnlyAllowed_stepTimerFire {s t : State} (ht : exec .stepTimerFire s = .next t) : SendsOnlyAllowed s t := by
  cases henabled : timerEnabled s with
  | false =>
    cases (exec_stepTimerFire_disabled henabled).symm.trans ht
    exact .refl s
  | true =>
    cases (exec_stepTimerFire_enabled henabled).symm.trans ht
    exact (SendsOnlyAllowed.refl s).send (allowedBeforeHandshake_minPoll s)

/-- The privilege table of R400, by the operation. -/
theorem sendsOnlyAllowed_runHostOp {op : HostOp} {s t : State} (hno : s.hs.ok = false) (ht : runHostOp op s = .next t) :
    SendsOnlyAllowed s t := by
  cases op with
  | sendGeneric code =>
    cases ht
    exact sendsOnlyAllowed_issueGeneric code hno
  | sendPresetVolume v =>
    have hgate : gateAdmits s .preset = false := hno
    simp only [runHostOp, execHostSendPresetVolume, hgate, Bool.not_false, if_true] at ht
    cases ht
    exact (SendsOnlyAllowed.refl s).of_tx_eq
  | sendTotalsRequest =>
    simp only [runHostOp, execHostSendTotalsRequest] at ht
    split at ht
    case isTrue =>
      cases ht
      exact (SendsOnlyAllowed.refl s).of_tx_eq
    case isFalse hgate =>
      cases ht
      have hreads : s.cfg.totalsIsReadQuery = true := by simpa [gateAdmits, hno] using hgate
      exact (SendsOnlyAllowed.refl s).send (.inr (.inr (.inr ⟨hreads, rfl⟩)))
  | sendMinPoll =>
    cases ht
    exact (SendsOnlyAllowed.refl s).send (allowedBeforeHandshake_minPoll s)
  | sendMinAck =>
    cases ht
    exact (SendsOnlyAllowed.refl s).send (allowedBeforeHandshake_minAck s)
  | intentHint state => exact (SendsOnlyAllowed.refl s).of_tx_eq (execHostIntentHint_tx ht)
  | setCrcOrder | setAutoAck | setAutoPoll | transportOpen | transportClose =>
    cases ht
    exact (SendsOnlyAllowed.refl s).of_tx_eq

/-- An instruction that a line of the script stands for; a session reset empties the stream (R420). -/
theorem sendsOnlyAllowed_exec_of_decodeStep {line : List Nat} {i : Instr} {s t : State} (hd : decodeStep line = .ok i)
    (hun : Unarmed s) (hno : s.hs.ok = false) (ht : exec i s = .next t) : t.tx = [] ∨ SendsOnlyAllowed s t := by
  rcases decodeStep_ok_cases hd with ⟨b, rfl⟩ | ⟨now, rfl⟩ | rfl | ⟨op, rfl⟩ | rfl | ⟨load, rfl⟩
  · exact .inr ((SendsOnlyAllowed.refl s).of_tx_eq (receiveByte_tx ht))
  · exact .inr (sendsOnlyAllowed_stepDispatch hun ht)
  · exact .inr (sendsOnlyAllowed_stepTimerFire ht)
  · exact .inr (sendsOnlyAllowed_runHostOp hno ht)
  · cases ht
    exact .inr (SendsOnlyAllowed.refl s).of_tx_eq
  · cases ht
    exact .inl rfl

/-- Settles O53: before the handshake the invariant leaves the tracker unarmed, so what leaves is an acknowledge, a poll or what the gate admits. -/
theorem onlyReadQueriesLeaveBeforeHandshake : Obligations.OnlyReadQueriesLeaveBeforeHandshake := by
  intro s t hinv hno ht
  cases hs : s.script with
  | nil =>
    rw [step_of_script_nil hs] at ht
    cases ht
    exact .inr (SendsOnlyAllowed.refl s)
  | cons line rest =>
    cases hd : decodeStep line with
    | error why =>
      rw [step_of_rejected hs hd] at ht
      cases ht
    | ok i =>
      rw [step_of_decoded hs hd] at ht
      exact sendsOnlyAllowed_exec_of_decodeStep (s := { s with script := rest }) hd (unarmed_of_same (unarmed_of_inv hinv hno)) hno ht

end Sys2Proof.Proofs.Handshake

/-! # The sale window and the vehicle count

What a status does to the sale window (R310 to R314), what counts a sale and what leaves the count as it is (R313, R322 (b)), and the one STOP of a run of
volume records (R318). -/

namespace Sys2Proof.Proofs.SaleWindow

open Sys2Proof Sys2Proof.Machine Sys2Proof.Laws Sys2Proof.Proofs.Invariant Sys2Proof.Proofs.Writers Sys2Proof.Proofs.Responses

/-! ## A status by the class of its state (R261, R310) -/

theorem isResetClass_eq_true_iff {new : PumpState} :
    isResetClass new = true ↔ new = .reset ∨ new = .switchedOff ∨ new = .notProgrammed := by
  cases new <;> simp [isResetClass]

theorem isTerminal_eq_true_iff {new : PumpState} :
    isTerminal new = true ↔ new = .fillingCompleted ∨ new = .maxAmountVolume ∨ isResetClass new = true := by
  cases new <;> simp [isTerminal, isResetClass]

theorem opensSale_of_isTerminal {new : PumpState} (h : isTerminal new = true) : opensSale new = false := by
  rw [Bool.eq_false_iff]
  intro hopens
  rcases opensSale_eq_true_iff.1 hopens with rfl | rfl <;> cases h

/-- A state that opens a window closes and clears nothing. -/
theorem onStatus_of_opensSale (prev : PumpState) {new : PumpState} (h : opensSale new = true) (s : State) :
    onStatus prev new s = if s.sale.active then s else openWindow s := by
  have hclass : isTerminal new = false ∧ isResetClass new = false := by
    rcases opensSale_eq_true_iff.1 h with rfl | rfl <;> exact ⟨rfl, rfl⟩
  cases ha : s.sale.active <;> simp [onStatus, h, hclass, ha]

/-- A terminal state closes an active window; one of the reset class, when it is entered, then clears the memory. -/
theorem onStatus_of_isTerminal_active (prev : PumpState) {new : PumpState} {s : State} (h : isTerminal new = true)
    (hactive : s.sale.active = true) :
    onStatus prev new s = if isResetClass new = true ∧ prev ≠ new then clearSaleMemory (closeWindow s) else closeWindow s := by
  simp [onStatus, opensSale_of_isTerminal h, h, hactive]

/-- Without a window it clears the memory, if anything. -/
theorem onStatus_of_isTerminal_idle (prev : PumpState) {new : PumpState} {s : State} (h : isTerminal new = true)
    (hidle : s.sale.active = false) :
    onStatus prev new s = if isResetClass new = true ∧ prev ≠ new then clearSaleMemory s else s := by
  simp [onStatus, opensSale_of_isTerminal h, hidle]

theorem onStatus_suspended (prev : PumpState) (s : State) : onStatus prev .suspended s = s := rfl

/-! ## The three ways a window closes (R313) -/

theorem closeWindow_counts {s : State} (hsample : s.sale.hasVolumeSample = true) (hunbumped : s.sale.countersBumped = false) :
    closeWindow s =
      { s with
        counters := ⟨s.counters.vehicleCount + 1, s.counters.totalCl + s.sale.lastVolumeCl⟩
        sale := { s.sale with active := false, presetTargetMl := none, countersBumped := true }
        evt := s.evt ++ [.countersSave (s.counters.vehicleCount + 1) (s.counters.totalCl + s.sale.lastVolumeCl)] } := by
  simp [closeWindow, settleSale, hsample, hunbumped, bumpCounters, emit]

theorem closeWindow_of_countersBumped {s : State} (hsample : s.sale.hasVolumeSample = true) (hbumped : s.sale.countersBumped = true) :
    closeWindow s = { s with sale := { s.sale with active := false, presetTargetMl := none } } := by
  simp [closeWindow, settleSale, hsample, hbumped]

theorem closeWindow_of_noSample {s : State} (hsample : s.sale.hasVolumeSample = false) :
    closeWindow s =
      { s with
        sale := { s.sale with active := false, presetTargetMl := none }
        evt := s.evt ++ [.decodeWarning .noSampleInSale] } := by
  simp [closeWindow, settleSale, hsample, emit]

/-- Settles O35: by the class of the new state and by whether a window is active. -/
theorem saleWindowOpensAndClosesByStatus : Obligations.SaleWindowOpensAndClosesByStatus := by
  intro prev new s
  simp only [← opensSale_eq_true_iff, ← isResetClass_eq_true_iff, ← isTerminal_eq_true_iff]
  have hterminal (hclass : isResetClass new = true) : isTerminal new = true := isTerminal_eq_true_iff.2 (.inr (.inr hclass))
  refine ⟨fun hopens hidle => ?_, fun hopens hactive => ?_, ?_, fun hends hidle => ?_, fun hclass hentered hidle => ?_, fun hends hactive => ?_⟩
  · rw [onStatus_of_opensSale prev hopens, hidle]
    rfl
  · rw [onStatus_of_opensSale prev hopens, if_pos hactive]
  · rintro rfl
    exact onStatus_suspended prev s
  · have hquiet : isTerminal new = true ∧ ¬ (isResetClass new = true ∧ prev ≠ new) := by
      rcases hends with rfl | rfl | ⟨hclass, hsame⟩
      · exact ⟨rfl, nofun⟩
      · exact ⟨rfl, nofun⟩
      · exact ⟨hterminal hclass, fun hentered => hentered.2 hsame⟩
    rw [onStatus_of_isTerminal_idle prev hquiet.1 hidle, if_neg hquiet.2]
  · rw [onStatus_of_isTerminal_idle prev (hterminal hclass) hidle, if_pos ⟨hclass, hentered⟩]
    rfl
  · refine ⟨closeWindow s, closeWindow_counts, closeWindow_of_countersBumped, closeWindow_of_noSample, ?_⟩
    rw [onStatus_of_isTerminal_active prev hends hactive]
    rfl

/-! ## What leaves the window and the count as they are -/

theorem savesIn_append (evt more : List Event) : savesIn (evt ++ more) = savesIn evt + savesIn more := by
  simp [savesIn]

/-- From `s` to `t` no window opens or closes, nothing is counted or saved, and the parameters stay. -/
structure KeepsCount (s t : State) : Prop where
  cfg : t.cfg = s.cfg
  active : t.sale.active = s.sale.active
  counters : t.counters = s.counters
  evt : s.evt <+: t.evt
  saves : savesIn t.evt = savesIn s.evt

theorem keepsCount_of_same {s t : State} (hcfg : t.cfg = s.cfg := by rfl) (hactive : t.sale.active = s.sale.active := by rfl)
    (hcounters : t.counters = s.counters := by rfl) (hevt : t.evt = s.evt := by rfl) : KeepsCount s t :=
  ⟨hcfg, hactive, hcounters, by simp [hevt], by rw [hevt]⟩

/-- One report other than a save. -/
theorem keepsCount_of_report {s t : State} (e : Event) (he : savesIn [e] = 0 := by rfl) (hcfg : t.cfg = s.cfg := by rfl)
    (hactive : t.sale.active = s.sale.active := by rfl) (hcounters : t.counters = s.counters := by rfl)
    (hevt : t.evt = s.evt ++ [e] := by rfl) : KeepsCount s t :=
  ⟨hcfg, hactive, hcounters, by simp [hevt], by rw [hevt, savesIn_append, he, Nat.add_zero]⟩

theorem KeepsCount.trans {s t u : State} (h : KeepsCount s t) (k : KeepsCount t u) : KeepsCount s u :=
  ⟨k.cfg.trans h.cfg, k.active.trans h.active, k.counters.trans h.counters, h.evt.trans k.evt, k.saves.trans h.saves⟩

theorem keepsCount_send (bytes : List Byte) (s : State) : KeepsCount s (send bytes s).2 := by
  rcases send_cases bytes s with ⟨-, h⟩ | ⟨-, h⟩ <;> rw [h]
  · exact keepsCount_of_same
  · exact keepsCount_of_report .sendFailed

theorem keepsCount_issueGeneric (code : Byte) (s : State) : KeepsCount s (issueGeneric code s).2 := by
  rcases issueGeneric_cases code s with ⟨-, h⟩ | ⟨-, -, h⟩ | ⟨-, -, -, h⟩ | ⟨-, -, -, h⟩ <;> rw [h]
  · exact keepsCount_of_report (.commandRefused .noHandshake)
  · exact keepsCount_of_report (.commandRefused .nozzleStowed)
  · exact keepsCount_of_same
  · exact keepsCount_of_report .sendFailed

theorem keepsCount_busy (s : State) : KeepsCount s (busy s) := by
  rcases busy_cases s with ⟨-, h⟩ | ⟨-, -, h⟩ | ⟨-, -, h⟩ <;> rw [h]
  · exact keepsCount_of_same
  · exact keepsCount_issueGeneric _ s
  · exact keepsCount_of_same

theorem keepsCount_handshakeTouch (now : Nat) (s : State) : KeepsCount s (handshakeTouch now s) := by
  cases hok : s.hs.ok with
  | false =>
    rw [handshakeTouch_first now hok]
    exact keepsCount_of_report .handshakeAcquired
  | true =>
    rw [handshakeTouch_ok now hok]
    exact keepsCount_of_same

/-- A sample is remembered and may stop the sale, but it counts nothing (R316, R318). -/
theorem keepsCount_sample (volumeCl amountC : Nat) (s : State) : KeepsCount s (sample volumeCl amountC s) := by
  have hremember : KeepsCount s (rememberSample volumeCl amountC s) := by
    unfold rememberSample
    split <;> exact keepsCount_of_same
  refine hremember.trans ?_
  unfold sample
  rcases autoStop_cases volumeCl (rememberSample volumeCl amountC s) with ⟨-, h⟩ | ⟨-, -, h⟩ | ⟨-, -, h⟩ <;> rw [h]
  · exact keepsCount_of_same
  · exact keepsCount_issueGeneric _ _
  · exact keepsCount_of_same

theorem keepsCount_sendPreset (volumeCl : Int) (s : State) : KeepsCount s (sendPreset volumeCl s) := by
  have hsent := keepsCount_send (encodePreset s.deviceAddr volumeCl s.crcOrder) s
  unfold sendPreset
  dsimp only
  split
  · exact hsent.trans keepsCount_of_same
  · exact hsent

theorem keepsCount_runHostOp {op : HostOp} {s t : State} (ht : runHostOp op s = .next t) : KeepsCount s t := by
  cases op with
  | sendGeneric code =>
    cases ht
    exact keepsCount_issueGeneric code s
  | sendPresetVolume v =>
    simp only [runHostOp, execHostSendPresetVolume] at ht
    split_ifs at ht <;> cases ht
    · exact keepsCount_of_report (.commandRefused .noHandshake)
    · exact keepsCount_of_report (.commandRefused .presetAlreadySent)
    · exact keepsCount_sendPreset v s
  | sendTotalsRequest =>
    simp only [runHostOp, execHostSendTotalsRequest] at ht
    split_ifs at ht <;> cases ht
    · exact keepsCount_of_report (.commandRefused .noHandshake)
    · exact keepsCount_send _ s
  | sendMinPoll | sendMinAck =>
    cases ht
    exact keepsCount_send _ s
  | intentHint state =>
    simp only [runHostOp, execHostIntentHint] at ht
    split_ifs at ht <;> cases ht
    · exact keepsCount_of_report (.statusHint state)
    · exact keepsCount_of_same
  | setCrcOrder | setAutoAck | setAutoPoll | transportOpen | transportClose =>
    cases ht
    exact keepsCount_of_same

theorem keepsCount_receiveByte {b : Byte} {s t : State} (ht : receiveByte b s = .next t) : KeepsCount s t := by
  rcases receiveByte_next_cases ht with ⟨-, rfl⟩ | ⟨_, -, rfl⟩ <;> exact keepsCount_of_same

theorem keepsCount_stepTimerFire {s t : State} (ht : execStepTimerFire s = .next t) : KeepsCount s t := by
  unfold execStepTimerFire at ht
  split_ifs at ht <;> cases ht
  · exact keepsCount_send minPoll s
  · exact keepsCount_of_same

/-! ## Only a status opens, closes or counts -/

/-- A save is no plain report: `bumpCounters` makes it together with the count (R313). -/
theorem savesIn_of_plainReport {e : Event} (h : plainReport e = true) : savesIn [e] = 0 := by
  cases e
  case countersSave => cases h
  all_goals rfl

/-- Of the operations of the decoder only `setState` moves the window or the count. -/
theorem keptByDecoding_of_setState {P : State → Prop} (hkept : ∀ u v, KeepsCount u v → P u → P v)
    (hstatus : ∀ new u, P u → P (setState new u)) : KeptByDecoding P where
  emit e u hplain := hkept _ _ (keepsCount_of_report e (savesIn_of_plainReport hplain))
  ack u := hkept _ _ (keepsCount_send minAck u)
  touch now u := hkept _ _ (keepsCount_handshakeTouch now u)
  setState := hstatus
  sample v a u _ := hkept _ _ (keepsCount_sample v a u)
  nozzle _ _ out _ := hkept _ _ (keepsCount_of_report (.nozzleChanged out))
  busy u := hkept _ _ (keepsCount_busy u)

/-- So what a status keeps, and what does not break while window and count stay, is kept by every instruction but a session reset. -/
theorem exec_of_setState {P : State → Prop} (hkept : ∀ u v, KeepsCount u v → P u → P v) (hstatus : ∀ new u, P u → P (setState new u))
    {i : Instr} {s t : State} (ht : exec i s = .next t) (hreset : ∀ load, i ≠ .stepSessionReset load) (hs : P s) : P t := by
  have hdecoding := keptByDecoding_of_setState hkept hstatus
  rcases instr_classes i with hin | hout | ⟨op, rfl⟩ | ⟨b, rfl⟩ | ⟨now, rfl⟩ | rfl | ⟨op, rfl⟩ | rfl | ⟨load, rfl⟩
  · exact hdecoding.exec hin hs ht
  · obtain ⟨bytes, hsend⟩ := hout s
    cases hsend.symm.trans ht
    exact hkept _ _ (keepsCount_send bytes s) hs
  · exact hkept _ _ (keepsCount_runHostOp ((exec_hostRow op s).symm.trans ht)) hs
  · exact hkept _ _ (keepsCount_receiveByte ht) hs
  · cases hq : s.frameQ with
    | nil =>
      cases (execStepDispatch_nil now hq).symm.trans ht
      exact hs
    | cons q rest => exact hdecoding.dispatch hq (hkept s _ keepsCount_of_same hs) ht
  · exact hkept _ _ (keepsCount_stepTimerFire ht) hs
  · exact hkept _ _ (keepsCount_runHostOp ht) hs
  · cases ht
    exact hkept _ _ (keepsCount_of_report .transportFault) hs
  · exact absurd rfl (hreset load)

/-! ## The vehicle count (R322 (b)) -/

/-- From `s` to `t` a number `n` of sales were counted, and each was saved. -/
structure Counts (n : Nat) (s t : State) : Prop where
  vehicles : t.counters.vehicleCount = s.counters.vehicleCount + n
  saves : savesIn t.evt = savesIn s.evt + n

theorem KeepsCount.counts {s t : State} (h : KeepsCount s t) : Counts 0 s t := ⟨by rw [h.counters]; rfl, h.saves⟩

theorem KeepsCount.counts_trans {n : Nat} {s t u : State} (h : KeepsCount s t) (k : Counts n t u) : Counts n s u :=
  ⟨by rw [k.vehicles, h.counters], by rw [k.saves, h.saves]⟩

/-- A closing window is counted once or not at all (R313). -/
theorem closeWindow_counts_le_one (s : State) : ∃ n ≤ 1, Counts n s (closeWindow s) := by
  rcases settleSale_cases s with ⟨hsample, hunbumped, -⟩ | ⟨hsample, -⟩ | ⟨hsample, hbumped, -⟩
  · rw [closeWindow_counts hsample hunbumped]
    exact ⟨1, Nat.le_refl 1, rfl, savesIn_append _ _⟩
  · rw [closeWindow_of_noSample hsample]
    exact ⟨0, Nat.zero_le 1, rfl, savesIn_append _ _⟩
  · rw [closeWindow_of_countersBumped hsample hbumped]
    exact ⟨0, Nat.zero_le 1, rfl, rfl⟩

theorem onStatus_counts_le_one (prev new : PumpState) (s : State) : ∃ n ≤ 1, Counts n s (onStatus prev new s) := by
  rcases onStatus_cases prev new s with ⟨-, -, h⟩ | ⟨-, -, h⟩ | ⟨-, -, h⟩ | ⟨-, -, h⟩ | ⟨-, h⟩ <;> rw [h]
  · exact ⟨0, Nat.zero_le 1, rfl, savesIn_append _ _⟩
  · exact ⟨0, Nat.zero_le 1, rfl, rfl⟩
  · obtain ⟨n, hn, hvehicles, hsaves⟩ := closeWindow_counts_le_one s
    refine ⟨n, hn, ?_⟩
    split <;> exact ⟨hvehicles, hsaves⟩
  · refine ⟨0, Nat.zero_le 1, ?_⟩
    split <;> exact ⟨rfl, rfl⟩
  · exact ⟨0, Nat.zero_le 1, rfl, rfl⟩

/-- The state `new` entered and reported, before the tracker is told (R265). -/
def entered (new : PumpState) (s : State) : State := emit (.statusChanged new) { s with pumpState := new, hintState := none }

/-- A status enters its state and then, where there is a tracker, tells it. -/
theorem setState_cases (new : PumpState) (s : State) :
    s.cfg.trackerPresent = false ∧ setState new s = entered new s ∨
      s.cfg.trackerPresent = true ∧ setState new s = onStatus s.pumpState new (entered new s) := by
  cases htracker : s.cfg.trackerPresent with
  | false => exact .inl ⟨rfl, setState_noTracker htracker⟩
  | true => exact .inr ⟨rfl, setState_tracker htracker⟩

theorem keepsCount_entered (new : PumpState) (s : State) : KeepsCount s (entered new s) := keepsCount_of_report (.statusChanged new)

theorem setState_counts_le_one (new : PumpState) (s : State) : ∃ n ≤ 1, Counts n s (setState new s) := by
  rcases setState_cases new s with ⟨-, h⟩ | ⟨-, h⟩ <;> rw [h]
  · exact ⟨0, Nat.zero_le 1, (keepsCount_entered new s).counts⟩
  · obtain ⟨n, hn, hcounts⟩ := onStatus_counts_le_one s.pumpState new (entered new s)
    exact ⟨n, hn, (keepsCount_entered new s).counts_trans hcounts⟩

theorem countersMatchSaves_of_counts {n : Nat} {s t : State} (h : CountersMatchSaves s) (hcfg : t.cfg = s.cfg) (hcounts : Counts n s t) :
    CountersMatchSaves t := by
  unfold CountersMatchSaves at h ⊢
  rw [hcounts.vehicles, hcounts.saves, hcfg, h, Nat.add_assoc]

/-- Settles O55: a status saves as often as it counts, nothing else does either, and a session starts with the loaded count and no event. -/
theorem vehicleCountMatchesSaves : Obligations.VehicleCountMatchesSaves := by
  refine ⟨rfl, fun i s t ht hs => ?_⟩
  by_cases hreset : ∃ load, i = .stepSessionReset load
  · obtain ⟨load, rfl⟩ := hreset
    cases ht
    rfl
  · refine exec_of_setState (P := CountersMatchSaves) (fun u v hkeeps hu => ?_) (fun new u hu => ?_) ht (not_exists.1 hreset) hs
    · exact countersMatchSaves_of_counts hu hkeeps.cfg hkeeps.counts
    · obtain ⟨n, -, hcounts⟩ := setState_counts_le_one new u
      exact countersMatchSaves_of_counts hu (continues_setState new u).cfg hcounts

/-! ## Without a window nothing is counted (R313, D26) -/

theorem keepsCount_onStatus_of_idle (prev : PumpState) {new : PumpState} {s : State} (hnew : opensSale new = false)
    (hidle : s.sale.active = false) : KeepsCount s (onStatus prev new s) := by
  rcases onStatus_cases prev new s with ⟨hopens, -⟩ | ⟨hopens, -⟩ | ⟨-, hactive, -⟩ | ⟨-, -, h⟩ | ⟨-, h⟩
  · simp [hnew] at hopens
  · simp [hnew] at hopens
  · simp [hidle] at hactive
  · rw [h]
    split <;> exact keepsCount_of_same
  · rw [h]
    exact keepsCount_of_same

/-- The tracker is silent where it is absent, and on a status that opens no window while none is open. -/
theorem keepsCount_setState {new : PumpState} {s : State}
    (hs : s.cfg.trackerPresent = false ∨ s.sale.active = false ∧ opensSale new = false) : KeepsCount s (setState new s) := by
  rcases setState_cases new s with ⟨-, h⟩ | ⟨htracker, h⟩ <;> rw [h]
  · exact keepsCount_entered new s
  · obtain ⟨hidle, hnew⟩ := hs.resolve_left (by simp [htracker])
    exact (keepsCount_entered new s).trans (keepsCount_onStatus_of_idle _ hnew hidle)

theorem onStatus_active_of_isTerminal (prev : PumpState) {new : PumpState} (h : isTerminal new = true) (s : State) :
    (onStatus prev new s).sale.active = false := by
  cases hactive : s.sale.active with
  | false =>
    rw [onStatus_of_isTerminal_idle prev h hactive]
    split <;> exact hactive
  | true =>
    rw [onStatus_of_isTerminal_active prev h hactive]
    split <;> rfl

/-- After a terminal status no window is open, unless one was open without the tracker. -/
theorem setState_active_of_isTerminal {new : PumpState} {s : State} (hnew : isTerminal new = true)
    (hs : s.cfg.trackerPresent = true ∨ s.sale.active = false) : (setState new s).sale.active = false := by
  rcases setState_cases new s with ⟨hno, h⟩ | ⟨-, h⟩ <;> rw [h]
  · exact (keepsCount_entered new s).active.trans (hs.resolve_left (by simp [hno]))
  · exact onStatus_active_of_isTerminal _ hnew _

/-- A terminal status without a window reports the new state alone. -/
theorem setState_evt_of_isTerminal {new : PumpState} {s : State} (hnew : isTerminal new = true) (hidle : s.sale.active = false) :
    (setState new s).evt = s.evt ++ [.statusChanged new] := by
  rcases setState_cases new s with ⟨-, h⟩ | ⟨-, h⟩ <;> rw [h]
  · rfl
  · rw [onStatus_of_isTerminal_idle (s := entered new s) _ hnew hidle]
    split <;> rfl

theorem statusItem_active_of_isTerminal {code : Byte} {table : StatusTable} {new : PumpState} (now : Nat) {s : State}
    (hmap : mapStatus s.cfg code table = some new) (h : isTerminal new = true) (hs : s.cfg.trackerPresent = true ∨ s.sale.active = false) :
    (statusItem code table now s).sale.active = false := by
  have htouch := keepsCount_handshakeTouch now s
  rw [statusItem_mapped now hmap]
  exact setState_active_of_isTerminal h (by rwa [htouch.cfg, htouch.active])

/-- A terminal status counts nothing when there is no window for the tracker to close. -/
theorem keepsCount_statusItem_of_isTerminal {code : Byte} {table : StatusTable} {new : PumpState} (now : Nat) {s : State}
    (hmap : mapStatus s.cfg code table = some new) (h : isTerminal new = true) (hs : s.cfg.trackerPresent = false ∨ s.sale.active = false) :
    KeepsCount s (statusItem code table now s) := by
  have htouch := keepsCount_handshakeTouch now s
  rw [statusItem_mapped now hmap]
  refine htouch.trans (keepsCount_setState ?_)
  rw [htouch.cfg, htouch.active]
  exact hs.imp_right fun hidle => ⟨hidle, opensSale_of_isTerminal h⟩

theorem statusItem_evt_of_isTerminal {code : Byte} {table : StatusTable} {new : PumpState} (now : Nat) {s : State}
    (hmap : mapStatus s.cfg code table = some new) (h : isTerminal new = true) (hidle : s.sale.active = false) :
    (statusItem code table now s).evt = s.evt ++ (if s.hs.ok then [] else [.handshakeAcquired]) ++ [.statusChanged new] := by
  have htouch := keepsCount_handshakeTouch now s
  rw [statusItem_mapped now hmap, setState_evt_of_isTerminal h (htouch.active.trans hidle), handshakeTouch_eq]

/-- From `s`, which has no window, to `t` a state was reported that opens one, or there is still none and nothing was counted. -/
def OpenedOrUncounted (s t : State) : Prop :=
  ∃ more : List Event, t.evt = s.evt ++ more ∧
    (.statusChanged .authorized ∈ more ∨ .statusChanged .filling ∈ more ∨
      t.sale.active = false ∧ t.counters = s.counters ∧ savesIn t.evt = savesIn s.evt)

theorem OpenedOrUncounted.of_keepsCount {s t u : State} (h : OpenedOrUncounted s t) (k : KeepsCount t u) : OpenedOrUncounted s u := by
  obtain ⟨more, hmore, hcases⟩ := h
  obtain ⟨more', hmore'⟩ := k.evt
  refine ⟨more ++ more', by rw [← hmore', hmore, List.append_assoc], ?_⟩
  rcases hcases with hreported | hreported | ⟨hidle, hcounters, hsaves⟩
  · exact .inl (List.mem_append_left more' hreported)
  · exact .inr (.inl (List.mem_append_left more' hreported))
  · exact .inr (.inr ⟨k.active.trans hidle, k.counters.trans hcounters, k.saves.trans hsaves⟩)

/-- The report of a status comes first among what it appends (R265). -/
theorem setState_evt (new : PumpState) (s : State) : ∃ more, (setState new s).evt = s.evt ++ .statusChanged new :: more := by
  rcases setState_cases new s with ⟨-, h⟩ | ⟨-, h⟩ <;> rw [h]
  · exact ⟨[], rfl⟩
  · obtain ⟨more, hmore⟩ := (continues_onStatus s.pumpState new (entered new s)).evt
    exact ⟨more, by rw [← hmore]; simp [entered]⟩

theorem OpenedOrUncounted.setState {s t : State} (h : OpenedOrUncounted s t) (new : PumpState) : OpenedOrUncounted s (setState new t) := by
  obtain ⟨more, hmore, hcases⟩ := h
  obtain ⟨more', hmore'⟩ := setState_evt new t
  have hevt : (Machine.setState new t).evt = s.evt ++ (more ++ .statusChanged new :: more') := by rw [hmore', hmore, List.append_assoc]
  rcases hcases with hreported | hreported | huncounted
  · exact ⟨_, hevt, .inl (List.mem_append_left _ hreported)⟩
  · exact ⟨_, hevt, .inr (.inl (List.mem_append_left _ hreported))⟩
  · cases hnew : opensSale new with
    | true => rcases opensSale_eq_true_iff.1 hnew with rfl | rfl <;> exact ⟨_, hevt, by simp⟩
    | false => exact OpenedOrUncounted.of_keepsCount ⟨more, hmore, .inr (.inr huncounted)⟩ (keepsCount_setState (.inr ⟨huncounted.1, hnew⟩))

theorem exec_openedOrUncounted {i : Instr} {s t : State} (ht : exec i s = .next t) (hreset : ∀ load, i ≠ .stepSessionReset load)
    (hidle : s.sale.active = false) : OpenedOrUncounted s t :=
  exec_of_setState (P := OpenedOrUncounted s) (fun _ _ hkeeps h => h.of_keepsCount hkeeps) (fun new _ h => h.setState new) ht hreset
    ⟨[], by simp, .inr (.inr ⟨hidle, rfl, rfl⟩)⟩

/-- A session starts without a window, so an instruction that opens one is no session reset. -/
theorem exec_opens_reported {i : Instr} {s t : State} (ht : exec i s = .next t) (hidle : s.sale.active = false) (hactive : t.sale.active = true) :
    ∃ more : List Event, t.evt = s.evt ++ more ∧ (.statusChanged .authorized ∈ more ∨ .statusChanged .filling ∈ more) := by
  have hreset : ∀ load, i ≠ .stepSessionReset load := by
    rintro load rfl
    cases ht
    cases hactive
  obtain ⟨more, hmore, hreported | hreported | ⟨hclosed, -⟩⟩ := exec_openedOrUncounted ht hreset hidle
  · exact ⟨more, hmore, .inl hreported⟩
  · exact ⟨more, hmore, .inr hreported⟩
  · simp [hactive] at hclosed

/-- After a terminal status there is no window that the tracker would close, so a second one counts nothing. -/
theorem keepsCount_second_terminal {s : State} {c1 c2 : Byte} {t1 t2 : StatusTable} {p1 p2 : PumpState} (n1 n2 : Nat)
    (h1 : mapStatus s.cfg c1 t1 = some p1) (h2 : mapStatus s.cfg c2 t2 = some p2) (hp1 : isTerminal p1 = true)
    (hp2 : isTerminal p2 = true) : KeepsCount (statusItem c1 t1 n1 s) (statusItem c2 t2 n2 (statusItem c1 t1 n1 s)) := by
  have hcfg : (statusItem c1 t1 n1 s).cfg = s.cfg := (continues_statusItem c1 t1 n1 s).cfg
  refine keepsCount_statusItem_of_isTerminal n2 (by rwa [hcfg]) hp2 ?_
  cases htracker : s.cfg.trackerPresent with
  | false => exact .inl (by rw [hcfg, htracker])
  | true => exact .inr (statusItem_active_of_isTerminal n1 h1 hp1 (.inl htracker))

theorem savesIn_statusItem_le {s : State} {code : Byte} {table : StatusTable} {new : PumpState} (now : Nat)
    (hmap : mapStatus s.cfg code table = some new) : savesIn (statusItem code table now s).evt ≤ savesIn s.evt + 1 := by
  obtain ⟨n, hn, hcounts⟩ := setState_counts_le_one new (handshakeTouch now s)
  have hsaves := ((keepsCount_handshakeTouch now s).counts_trans hcounts).saves
  rw [statusItem_mapped now hmap]
  omega

/-- Settles O36: a terminal status leaves no window; without one only a reported `Authorized` or `Filling` can make a count possible again. -/
theorem secondTerminalStatusDoesNotBump : Obligations.SecondTerminalStatusDoesNotBump := by
  refine ⟨fun s c table now p hmap hp => ⟨statusItem_active_of_isTerminal now hmap hp, fun hidle => ⟨?_, ?_⟩⟩,
    fun i s t ht hidle hactive => exec_opens_reported ht hidle hactive, fun i s t ht hreset hidle => exec_openedOrUncounted ht hreset hidle,
    fun s c1 c2 t1 t2 n1 n2 p1 p2 h1 h2 hp1 hp2 => ?_⟩
  · exact (keepsCount_statusItem_of_isTerminal now hmap hp (.inr hidle)).counters
  · exact statusItem_evt_of_isTerminal now hmap hp hidle
  · have hsecond := keepsCount_second_terminal n1 n2 h1 h2 hp1 hp2
    exact ⟨hsecond.counters, hsecond.saves, savesIn_statusItem_le n1 h1⟩

/-! ## One STOP over a run of volume records (R318) -/

/-- The STOP frame under the registers in force. -/
def stopFrame (s : State) : List Byte := encodeGeneric s.deviceAddr s.nozzle s.cfg.codeStop s.crcOrder

theorem stopFrame_of_continues {s t : State} (h : Continues s t) : stopFrame t = stopFrame s := by
  rw [stopFrame, stopFrame, h.deviceAddr, h.nozzle, h.cfg, h.crcOrder]

/-- From `s` to `t` nothing is sent, or the first STOP is sent and recorded. -/
def StopsAtMostOnce (s t : State) : Prop :=
  t.tx = s.tx ∧ t.sale.stopSent = s.sale.stopSent ∨
    s.sale.stopSent = false ∧ t.sale.stopSent = true ∧ t.tx = s.tx ++ [stopFrame s]

theorem issueGeneric_snd_sale (code : Byte) (s : State) : (issueGeneric code s).2.sale = s.sale := by
  rcases issueGeneric_cases code s with ⟨-, h⟩ | ⟨-, -, h⟩ | ⟨-, -, -, h⟩ | ⟨-, -, -, h⟩ <;> rw [h] <;> rfl

/-- The watch fires only while `stopSent` does not hold (R318). -/
theorem stopsAtMostOnce_autoStop (volumeCl : Nat) (s : State) : StopsAtMostOnce s (autoStop volumeCl s) := by
  rcases autoStop_cases volumeCl s with ⟨-, h⟩ | ⟨-, hnot, h⟩ | ⟨hdue, -, h⟩ <;> rw [h]
  · exact .inl ⟨rfl, rfl⟩
  · exact .inl ⟨issueGeneric_tx_of_not_sent hnot, by rw [issueGeneric_snd_sale]⟩
  · obtain ⟨target, -, hunsent, -⟩ := stopDue_eq_true_iff.1 hdue
    exact .inr ⟨hunsent, rfl, rfl⟩

theorem sampleRemembered_stopSent (v a : Nat) (s : State) : (sampleRemembered v a s).sale.stopSent = s.sale.stopSent := by
  unfold sampleRemembered
  split_ifs <;> rfl

theorem stopsAtMostOnce_applyVolume (v a : Nat) (s : State) : StopsAtMostOnce s (applyVolume v a s) := by
  cases htracker : s.cfg.trackerPresent with
  | false =>
    rw [applyVolume_noTracker v a htracker]
    exact .inl ⟨rfl, sampleRemembered_stopSent v a s⟩
  | true =>
    rw [applyVolume_tracker v a htracker]
    have hstop := stopsAtMostOnce_autoStop v (sampleRemembered v a s)
    unfold StopsAtMostOnce at hstop
    rwa [sampleRemembered_stopSent] at hstop

/-- A volume record of another length than eight only warns (R232). -/
theorem stopsAtMostOnce_volumeRecord (totals : Bool) (now : Nat) (data : List Byte) (s : State) :
    StopsAtMostOnce s (applyRecord totals now ⟨0x02#8, data⟩ s) := by
  have hrecord : applyRecord totals now ⟨0x02#8, data⟩ s = recordVolume now data s := rfl
  rw [hrecord, recordVolume]
  split
  · exact stopsAtMostOnce_applyVolume _ _ s
  · exact .inl ⟨rfl, rfl⟩

/-- Settles O38: by induction on the records; the one that sends the STOP records it, so none of the later ones does. -/
theorem atMostOneStopOverManySamples : Obligations.AtMostOneStopOverManySamples := by
  intro totals now samples s
  change ∃ n ≤ _, _ = s.tx ++ List.replicate n (stopFrame s)
  induction samples generalizing s with
  | nil => exact ⟨0, Nat.zero_le _, by simp [applyRecords]⟩
  | cons data samples ih =>
    obtain ⟨n, hn, htx⟩ := ih (applyRecord totals now ⟨0x02#8, data⟩ s)
    rw [stopFrame_of_continues (continues_applyRecord totals now _ s)] at htx
    rw [List.map_cons, applyRecords_cons, htx]
    rcases stopsAtMostOnce_volumeRecord totals now data s with ⟨hkept, hsame⟩ | ⟨hunsent, hsent, hstop⟩
    · exact ⟨n, hsame ▸ hn, by rw [hkept]⟩
    · obtain rfl : n = 0 := by simpa [hsent] using hn
      exact ⟨1, by simp [hunsent], by simp [hstop]⟩

end Sys2Proof.Proofs.SaleWindow

/-! # The host operations

Each operation of 48_host_operations.md with its whole next state (R351 to R361), the transport fault beside them (R386), and the `Host` step that carries one
(R350). -/

namespace Sys2Proof.Proofs.HostOps

open Sys2Proof Sys2Proof.Machine Sys2Proof.Proofs.Stops Sys2Proof.Proofs.Writers Sys2Proof.Proofs.Encoder Sys2Proof.Proofs.Responses

/-! ## The sends (R351 to R356) -/

theorem exec_hostSendGeneric (code : Byte) (s : State) : exec (.hostSendGeneric code) s = .next (issueGeneric code s).2 := rfl

/-- Settles O18: the operation is the generic command path, with nothing to mark after the send. -/
theorem sendGenericPassesGateThenResumeCheck : Obligations.SendGenericPassesGateThenResumeCheck := by
  intro code s
  have hpath := issueGeneric_then_mark code (fun t => t) s
  rw [ite_self] at hpath
  rw [exec_hostSendGeneric, hpath]
  rfl

theorem gateAdmits_preset (s : State) : gateAdmits s .preset = s.hs.ok := rfl

theorem gateAdmits_totals_eq_false_iff {s : State} :
    gateAdmits s .totals = false ↔ s.hs.ok = false ∧ s.cfg.totalsIsReadQuery = false := by
  simp [gateAdmits]

/-- An operation that is refused under a condition and otherwise completes, by the state it leaves. -/
theorem next_ite {c : Prop} [Decidable c] (t u : State) : (if c then .next t else .next u : Result) = .next (if c then t else u) :=
  (apply_ite _ c t u).symm

/-- The checks of the preset before its send (R353). -/
theorem exec_hostSendPresetVolume (volumeCl : Int) (s : State) :
    exec (.hostSendPresetVolume volumeCl) s = .next
      (if s.hs.ok = false then emit (.commandRefused .noHandshake) s
      else if s.cfg.trackerPresent = true ∧ s.sale.cd3SentThisSale = true then emit (.commandRefused .presetAlreadySent) s
      else sendPreset volumeCl s) := by
  simp only [exec, execHostSendPresetVolume, gateAdmits_preset, next_ite, Bool.not_eq_true', Bool.and_eq_true]

/-- The armed target is ten times the clamped volume (R353, R12). -/
theorem armPreset_eq (volumeCl : Int) (s : State) :
    armPreset volumeCl s =
      { s with sale := { s.sale with
          cd3SentThisSale := true
          presetTargetMl := some (10 * (max 10 (min volumeCl 25000)).toNat)
          authorizePending := true } } := by
  rw [← presetClamp_eq_max_min, Int.toNat_natCast]
  rfl

/-- An admitted preset arms the watch when its frame went out and the tracker is present (R353). -/
theorem sendPreset_eq_ite (volumeCl : Int) (s : State) :
    sendPreset volumeCl s =
      if s.transportOpen = true ∧ s.txFaulted = false then
        if s.cfg.trackerPresent = true then armPreset volumeCl { s with tx := s.tx ++ [encodePreset s.deviceAddr volumeCl s.crcOrder] }
        else { s with tx := s.tx ++ [encodePreset s.deviceAddr volumeCl s.crcOrder] }
      else emit .sendFailed s := by
  simp only [← canSend_eq_true_iff]
  rcases send_cases (encodePreset s.deviceAddr volumeCl s.crcOrder) s with ⟨hcan, hsend⟩ | ⟨hcannot, hsend⟩
  · simp only [sendPreset, hsend, hcan, Bool.true_and, if_true]
  · simp only [sendPreset, hsend, hcannot, Bool.false_and, Bool.false_eq_true, if_false]

/-- Settles O19: the two checks, then the send, which arms what `armPreset` writes. -/
theorem presetIsSentOncePerSaleAndArmsWatch : Obligations.PresetIsSentOncePerSaleAndArmsWatch := by
  intro volumeCl s
  rw [exec_hostSendPresetVolume, sendPreset_eq_ite, armPreset_eq]
  rfl

theorem exec_hostSendTotalsRequest (s : State) :
    exec .hostSendTotalsRequest s = .next
      (if s.hs.ok = false ∧ s.cfg.totalsIsReadQuery = false then emit (.commandRefused .noHandshake) s
      else (send (encodeTotalsRequest s.deviceAddr s.nozzle s.crcOrder) s).2) := by
  simp only [exec, execHostSendTotalsRequest, next_ite, Bool.not_eq_true', gateAdmits_totals_eq_false_iff]

theorem exec_hostSendMinPoll (s : State) : exec .hostSendMinPoll s = .next (send minPoll s).2 := rfl

theorem exec_hostSendMinAck (s : State) : exec .hostSendMinAck s = .next (send minAck s).2 := rfl

/-- Settles O20: the three operations by the guarded transmit, the first one behind its gate. -/
theorem totalsRequestPollAndAckOperations : Obligations.TotalsRequestPollAndAckOperations := by
  intro s
  rw [exec_hostSendTotalsRequest, exec_hostSendMinPoll, exec_hostSendMinAck, send_snd_eq_ite, send_snd_eq_ite, send_snd_eq_ite]
  exact ⟨rfl, rfl, rfl⟩

/-! ## The configuration (R357 to R361, R386) -/

/-- Settles O21: each operation is a record update of its registers; the same update once more changes nothing. -/
theorem configurationWritesItsRegistersOnly : Obligations.ConfigurationWritesItsRegistersOnly := by
  refine fun s order b intervalMs addr => ⟨rfl, rfl, rfl, rfl, rfl, rfl, fun i hi t ht => ?_⟩
  fin_cases hi <;> cases ht <;> rfl

/-! ## The `Host` step (R350) -/

/-- Settles O23: the step and the row of its operation are both `runHostOp`, which always completes. -/
theorem hostStepRunsItsOperation : Obligations.HostStepRunsItsOperation :=
  fun op s => ⟨(exec_hostRow op s).symm, runHostOp_completes op s⟩

end Sys2Proof.Proofs.HostOps

/-! # Reset and hazards

The session reset (R420) and the hazard of a stray zero byte before a frame (R434). -/

namespace Sys2Proof.Proofs.Hazards

open Sys2Proof Sys2Proof.Machine Sys2Proof.Proofs.Crc

theorem reloaded_eq (load : Option Counters) (p : Config.Params) : reloaded load p = { p with load := load.getD p.load } := by
  cases load <;> rfl

/-- The state that a session reset leaves (R420). -/
theorem exec_stepSessionReset (load : Option Counters) (s : State) :
    exec (.stepSessionReset load) s = .next (State.session { s.cfg with load := load.getD s.cfg.load } s.script) := by
  rw [← reloaded_eq]
  rfl

/-- Settles O26: the session state under the reloaded parameters, field by field. -/
theorem sessionResetRestoresEveryField : Obligations.SessionResetRestoresEveryField := fun load s =>
  ⟨_, exec_stepSessionReset load s, by
    simp only [State.session, Sale.initial, Config.resetCrcOrder, Config.resetPollMs, and_self]⟩

/-! ## Leading zeros (R434) -/

/-- A zero byte leaves a zero accumulator at zero. -/
theorem crcCompute_zero_cons (x : List Byte) : crcCompute (0x00#8 :: x) = crcCompute x := by
  have hzero : crcByte 0x0000#16 0x00#8 = 0x0000#16 := by decide
  rw [crcCompute_cons, Config.crcInit, hzero]

theorem crcCompute_replicate_zero_append (k : Nat) (x : List Byte) :
    crcCompute (List.replicate k 0x00#8 ++ x) = crcCompute x := by
  induction k with
  | zero => rfl
  | succ k ih => rw [List.replicate_succ, List.cons_append, crcCompute_zero_cons, ih]

/-- Settles O5: one zero at a time; the shifted frame has the same bytes after the zero, and the check reads their CRC alone. -/
theorem crcBlindToLeadingZeros : Obligations.CrcBlindToLeadingZeros := by
  refine ⟨crcCompute_replicate_zero_append, fun command f order => ⟨rfl, ?_⟩⟩
  have hbody : crcCompute ([0x00#8, f.addr] ++ (command :: f.payload)) = crcCompute ([f.addr, command] ++ f.payload) :=
    crcCompute_zero_cons _
  rw [crcOk, crcOk, hbody]

end Sys2Proof.Proofs.Hazards
